-- ==== Sys2Proof/Word.lean ====
section
/-! DEFINITION. The word types of the decoder: bytes, 16-bit words, 32-bit long words, and the two composite
fields an opcode word holds (00_scope.md section 4, 20_memory.md R33, 30_encoding.md R41). -/
namespace Sys2Proof

/-- One byte of the input buffer (20_memory.md R24). -/
abbrev Byte := BitVec 8

/-- One 16-bit instruction word (20_memory.md R26). -/
abbrev Word := BitVec 16

/-- One 32-bit long word, two instruction words (20_memory.md R29). -/
abbrev Long := BitVec 32

/-- A register number, a 3-bit field (10_state.md R9). -/
abbrev RegNum := BitVec 3

/-- An effective-address field: mode and register (00_scope.md glossary, 30_encoding.md R41 format `EA`). -/
structure EaField where
  /-- The addressing mode, bits 5:3 of the field's usual place. -/
  mode : BitVec 3
  /-- The register number, or the sub-mode of mode 7. -/
  reg : RegNum
deriving DecidableEq, Repr

/-- A register field with its D/A bit (30_encoding.md R41 format `RN-EXT`). -/
structure RegField where
  /-- The D/A bit: false a data register, true an address register. -/
  isAddr : Bool
  /-- The register number. -/
  num : RegNum
deriving DecidableEq, Repr

end Sys2Proof
end

