-- ==== Sys2Proof/Machine/DataModel.lean ====
section
/-! DEFINITION. The decoded data model, the values the block writes (10_state.md section 3), and the closed error
taxonomy (60_exceptions.md R297). Every table of the spec is one inductive type or structure here. -/
namespace Sys2Proof.Machine

/-- The five error kinds (60_exceptions.md R297), no payload. -/
inductive ErrorKind where
  /-- Fewer bytes remain than a form requires (20_memory.md R27). -/
  | outOfSpace
  /-- No row is taken, or a committed row has no fallback (30_encoding.md R46, R43). -/
  | notImplemented
  /-- An immediate of an unsupported byte width (30_encoding.md R56). -/
  | badSize
  /-- A reserved bit combination (30_encoding.md R59, R60, R69; 49_fpu_control.md R283, R284). -/
  | reserved
  /-- An illegal register encoding: EA mode 7 with register 5, 6 or 7 (30_encoding.md R55). -/
  | badRegister
deriving DecidableEq, Repr

/-- The 173 operation tags (10_state.md R21), in that rule's order. -/
inductive Operation where
  | ORITOCCR | ORITOSR | ANDITOCCR | ANDITOSR | EORITOCCR | EORITOSR | MOVEP | BTST | BCHG | BCLR | BSET
  | RTM | CALLM | CMP2 | CHK2 | CAS | ORI | ANDI | SUBI | ADDI | EORI | CMPI | MOVES
  | MOVEA | MOVE
  | ILLEGAL | BGND | RESET | NOP | STOP | RTE | RTD | RTS | TRAPV | RTR | MOVEC | TRAP | LINK | UNLK
  | MOVETOUSP | MOVEFROMUSP | JSR | JMP | NBCD | SWAP | BKPT | PEA | EXT | EXTB | MOVEM | MOVEFROMSR
  | MOVEFROMCCR | MOVETOCCR | MOVETOSR | NEGX | CLR | NEG | NOT | TAS | TST | MULU | MULS | DIVU | DIVS
  | DIVUL | DIVSL | CHK | LEA
  | DBCC | TRAPCC | SCC | ADDQ | SUBQ
  | BRA | BSR | BCC | MOVEQ
  | SBCD | PACK | UNPK | OR
  | SUBA | SUBX | SUB
  | CMPA | CMPM | CMP | EOR
  | ABCD | EXG | AND
  | ADDA | ADDX | ADD
  | BFTST | BFEXTU | BFCHG | BFEXTS | BFCLR | BFFFO | BFSET | BFINS | ASR | ASL | LSR | LSL | ROXR | ROXL
  | ROR | ROL
  | FMOVECR | FMOVE | FMOVEM | FINT | FSINH | FINTRZ | FSQRT | FLOGNP1 | FETOXM1 | FTANH | FATAN | FASIN
  | FATANH | FSIN | FTAN | FETOX | FTWOTOX | FTENTOX | FLOGN | FLOG10 | FLOG2 | FABS | FCOSH | FNEG | FACOS
  | FCOS | FGETEXP | FGETMAN | FDIV | FMOD | FADD | FMUL | FSGLDIV | FREM | FSCALE | FSGLMUL | FSUB
  | FSINCOS | FCMP | FTST | FSMOVE | FSSQRT | FDMOVE | FDSQRT | FSABS | FSNEG | FDABS | FDNEG | FSDIV
  | FSADD | FSMUL | FDDIV | FDADD | FDMUL | FSSUB | FDSUB | FDBCC | FTRAPCC | FSCC | FNOP | FBCC | FSAVE
  | FRESTORE
deriving DecidableEq, Repr

/-- The sixteen CPU conditions (30_encoding.md R66), in the order of their codes 0 to 15. -/
inductive Cond where
  | T | F | HI | LS | CC | CS | NE | EQ | VC | VS | PL | MI | GE | LT | GT | LE
deriving DecidableEq, Repr

/-- The thirty-two FPU conditions (30_encoding.md R67), in the order of their codes 0x00 to 0x1F. -/
inductive FCond where
  | F | EQ | OGT | OGE | OLT | OLE | OGL | OR | UN | UEQ | UGT | UGE | ULT | ULE | NE | T
  | SF | SEQ | GT | GE | LT | LE | GL | GLE | NGLE | NGL | NLE | NLT | NGE | NGT | SNE | ST
deriving DecidableEq, Repr

/-- An index register and its scale (10_state.md R15). -/
structure Indexer where
  /-- Whether the index register is an address register. -/
  isAddr : Bool
  /-- The index register's number. -/
  num : RegNum
  /-- The shift amount: the index is multiplied by two to this power. -/
  scale : BitVec 2
deriving DecidableEq, Repr

/-- The three kinds of memory indirection (10_state.md R16). -/
inductive MemoryIndirection where
  | indirect
  | preIndexed
  | postIndexed
deriving DecidableEq, Repr

/-- A displacement record (10_state.md R14). The two displacements are 32-bit two's-complement values. -/
structure Displacement where
  /-- The base displacement, sign-extended to 32 bits. -/
  base : Long
  /-- The outer displacement, sign-extended to 32 bits. -/
  outer : Long
  /-- The index register, if any. -/
  indexer : Option Indexer
  /-- The memory indirection, if any. -/
  indirection : Option MemoryIndirection
deriving DecidableEq, Repr

/-- The nineteen operand variants (10_state.md R13). The empty slot `NONE` is `none` of `Option Operand`. -/
inductive Operand where
  /-- An operand the operation names itself: CCR, SR or USP. -/
  | implied
  /-- An immediate byte or a small constant, unsigned. -/
  | imm8 (v : Byte)
  /-- An immediate word, unsigned. -/
  | imm16 (v : Word)
  /-- An immediate long word, unsigned. -/
  | imm32 (v : Long)
  /-- An absolute short address, the two's-complement value of the word. -/
  | abs16 (v : Word)
  /-- An absolute long address, unsigned. -/
  | abs32 (v : Long)
  /-- A data register. -/
  | dr (n : RegNum)
  /-- An address register. -/
  | ar (n : RegNum)
  /-- A floating-point register. -/
  | fr (n : RegNum)
  /-- Address register indirect. -/
  | arInd (n : RegNum)
  /-- Address register indirect with postincrement. -/
  | arInc (n : RegNum)
  /-- Address register indirect with predecrement. -/
  | arDec (n : RegNum)
  /-- An address register plus a displacement record. -/
  | arDisp (n : RegNum) (d : Displacement)
  /-- The PC sampled `off` bytes from the start of the buffer (10_state.md R10), plus a displacement record. -/
  | pcDisp (off : Nat) (d : Displacement)
  /-- A displacement record with the base register suppressed. -/
  | disp (d : Displacement)
  /-- A pair of data registers. -/
  | dPair (a b : RegNum)
  /-- A pair of floating-point registers. -/
  | fPair (a b : RegNum)
  /-- A register list, normalised: bit i is register i (30_encoding.md R71, R72). -/
  | regList (m : Word)
  /-- A control register, by its raw number (10_state.md R11). -/
  | controlReg (v : BitVec 12)
deriving DecidableEq, Repr

/-- A bitfield offset or width (10_state.md R17). -/
inductive BitfieldData where
  /-- A value in 1..32. -/
  | static (v : Nat)
  /-- A data register holding the value. -/
  | dynamic (n : RegNum)
deriving DecidableEq, Repr

/-- The eight floating-point formats (10_state.md R18). -/
inductive FPFormat where
  | byte
  | word
  | long
  | single
  | double
  | extended
  /-- Packed decimal with a static k-factor, a signed 7-bit value. -/
  | packedStatic (k : BitVec 7)
  /-- Packed decimal with the k-factor in a data register. -/
  | packedDynamic (n : RegNum)
deriving DecidableEq, Repr

/-- The extra part of an instruction (10_state.md R19). No extra is `none` of `Option Extra`. -/
inductive Extra where
  | bitfield (offset width : BitfieldData)
  | condCode (c : Cond)
  | fpCondCode (c : FCond)
  | packAdjust (v : Word)
  | fpFormat (f : FPFormat)
deriving DecidableEq, Repr

/-- A decoded instruction (10_state.md R20). -/
structure Instruction where
  /-- The width in bytes of the primary data operation, 0 when no sized data is moved. -/
  size : Nat
  /-- The operation tag. -/
  operation : Operation
  /-- `operands[0]`, the first (source) slot. -/
  op0 : Option Operand
  /-- `operands[1]`, the second (destination) slot. -/
  op1 : Option Operand
  /-- The extra, if the form carries one. -/
  extra : Option Extra
deriving DecidableEq, Repr

/-- The value of a successful call (10_state.md R22). -/
structure DecodedInstruction where
  /-- The instruction's length in bytes. -/
  bytesUsed : Nat
  /-- The decoded instruction. -/
  instruction : Instruction
deriving DecidableEq, Repr

/-- The result of a decode call (00_scope.md R1, 60_exceptions.md R302): a sum type, nothing beside the kind on
an error. -/
inductive CallResult where
  | ok (d : DecodedInstruction)
  | err (k : ErrorKind)
deriving DecidableEq, Repr

end Sys2Proof.Machine
end

