-- ==== Sys2Proof/Machine/Flags.lean ====
section
/-! DEFINITION. Condition codes. The block has no flags and computes none (10_state.md R12); a condition appears
only as a decoded value, by the two tables of 30_encoding.md R66 and R67. -/
namespace Sys2Proof.Machine

/-- `Cond(v)`: the CPU condition of a 4-bit field (30_encoding.md R66). -/
def condOf (v : BitVec 4) : Cond :=
  match v.toNat with
  | 0 => .T
  | 1 => .F
  | 2 => .HI
  | 3 => .LS
  | 4 => .CC
  | 5 => .CS
  | 6 => .NE
  | 7 => .EQ
  | 8 => .VC
  | 9 => .VS
  | 10 => .PL
  | 11 => .MI
  | 12 => .GE
  | 13 => .LT
  | 14 => .GT
  | _ => .LE

/-- `FCond(v)`: the FPU condition of a 6-bit field; bit 5 is ignored (30_encoding.md R67, 90_conflicts.md C2). -/
def fcondOf (v : BitVec 6) : FCond :=
  match (v.extractLsb' 0 5).toNat with
  | 0x00 => .F
  | 0x01 => .EQ
  | 0x02 => .OGT
  | 0x03 => .OGE
  | 0x04 => .OLT
  | 0x05 => .OLE
  | 0x06 => .OGL
  | 0x07 => .OR
  | 0x08 => .UN
  | 0x09 => .UEQ
  | 0x0A => .UGT
  | 0x0B => .UGE
  | 0x0C => .ULT
  | 0x0D => .ULE
  | 0x0E => .NE
  | 0x0F => .T
  | 0x10 => .SF
  | 0x11 => .SEQ
  | 0x12 => .GT
  | 0x13 => .GE
  | 0x14 => .LT
  | 0x15 => .LE
  | 0x16 => .GL
  | 0x17 => .GLE
  | 0x18 => .NGLE
  | 0x19 => .NGL
  | 0x1A => .NLE
  | 0x1B => .NLT
  | 0x1C => .NGE
  | 0x1D => .NGT
  | 0x1E => .SNE
  | _ => .ST

end Sys2Proof.Machine
end

