-- ==== Sys2Proof/Config.lean ====
section
/-! DEFINITION. What the implementation fixes. 00_scope.md section 3 leaves no parameter open, and no rule leaves
a value undefined, so this file holds the two bounds the spec derives and no free value. -/
namespace Sys2Proof.Config

/-- The largest instruction the block accepts, in words (30_encoding.md R77: 22 bytes). -/
def maxWords : Nat := 11

/-- The largest instruction the block accepts, in bytes (30_encoding.md R77, 70_reset_and_hazards.md R317). -/
def maxBytes : Nat := 2 * maxWords

end Sys2Proof.Config
end

