-- ==== Sys2Proof/Syntax.lean ====
section
/-! DEFINITION. The decoder's instruction rows: one constructor of `Instr` for each row of spec/opcode_table.json, in
the table's order. A constructor carries the fields of the opcode word `w1` that its row leaves free; the constructor
of a row with a second-word guard also carries the fields of the guarded word `w2` that the row's builder uses
(30_encoding.md R41, R42). A bit that no rule reads is carried nowhere (R79) and is shown as `-` in the patterns
below. In a pattern `mmmrrr` is an effective-address field, mode then register, `RRRMMM` the destination field of
MOVE, register then mode, and `dnnn` a D/A bit with a register number. -/
namespace Sys2Proof

/-- The 217 rows of the opcode table (00_scope.md R3). -/
inductive Instr where
  -- group 0000
  /-- R82, ORITOCCR: ORI to CCR. w1 = 0000 0000 0011 1100. -/
  | oriToCcr
  /-- R83, ORITOSR: ORI to SR. w1 = 0000 0000 0111 1100. -/
  | oriToSr
  /-- R84, ANDITOCCR: ANDI to CCR. w1 = 0000 0010 0011 1100. -/
  | andiToCcr
  /-- R85, ANDITOSR: ANDI to SR. w1 = 0000 0010 0111 1100. -/
  | andiToSr
  /-- R86, EORITOCCR: EORI to CCR. w1 = 0000 1010 0011 1100. -/
  | eoriToCcr
  /-- R87, EORITOSR: EORI to SR. w1 = 0000 1010 0111 1100. -/
  | eoriToSr
  /-- R88, MOVEP: move peripheral data. w1 = 0000 ddd1 tl00 1aaa. -/
  | movep (dx : RegNum) (toMem : Bool) (long : Bool) (ay : RegNum)
  /-- R89, BTST with the bit number in a data register. w1 = 0000 ddd1 00mm mrrr. -/
  | btstDn (dn : RegNum) (ea : EaField)
  /-- R90, BCHG with the bit number in a data register. w1 = 0000 ddd1 01mm mrrr. -/
  | bchgDn (dn : RegNum) (ea : EaField)
  /-- R91, BCLR with the bit number in a data register. w1 = 0000 ddd1 10mm mrrr. -/
  | bclrDn (dn : RegNum) (ea : EaField)
  /-- R92, BSET with the bit number in a data register. w1 = 0000 ddd1 11mm mrrr. -/
  | bsetDn (dn : RegNum) (ea : EaField)
  /-- R93, BTST with a static bit number. w1 = 0000 1000 00mm mrrr. -/
  | btstImm (ea : EaField)
  /-- R94, BCHG with a static bit number. w1 = 0000 1000 01mm mrrr. -/
  | bchgImm (ea : EaField)
  /-- R95, BCLR with a static bit number. w1 = 0000 1000 10mm mrrr. -/
  | bclrImm (ea : EaField)
  /-- R96, BSET with a static bit number. w1 = 0000 1000 11mm mrrr. -/
  | bsetImm (ea : EaField)
  /-- R97, RTM: return from module. w1 = 0000 0110 1100 dnnn. -/
  | rtm (rn : RegField)
  /-- R98, CALLM: call module. w1 = 0000 0110 11mm mrrr. -/
  | callm (ea : EaField)
  /-- R99, CMP2: compare register against bounds. w1 = 0000 0ss0 11mm mrrr; w2 = dnnn 0--- ---- ----. -/
  | cmp2 (ss : BitVec 2) (ea : EaField) (rn : RegField)
  /-- R100, CHK2: compare register against bounds and trap. w1 = 0000 0ss0 11mm mrrr; w2 = dnnn 1--- ---- ----. -/
  | chk2 (ss : BitVec 2) (ea : EaField) (rn : RegField)
  /-- R101, CAS2: compare and swap with two operands (refused). w1 = 0000 11l0 1111 1100. -/
  | cas2 (long : Bool)
  /-- R102, CAS: compare and swap. w1 = 0000 1010 11mm mrrr. -/
  | casB (ea : EaField)
  /-- R102, CAS: compare and swap. w1 = 0000 1100 11mm mrrr. -/
  | casW (ea : EaField)
  /-- R102, CAS: compare and swap. w1 = 0000 1110 11mm mrrr. -/
  | casL (ea : EaField)
  /-- R103, ORI: immediate operation. w1 = 0000 0000 ssmm mrrr. -/
  | ori (ss : BitVec 2) (ea : EaField)
  /-- R104, ANDI: immediate operation. w1 = 0000 0010 ssmm mrrr. -/
  | andi (ss : BitVec 2) (ea : EaField)
  /-- R105, SUBI: immediate operation. w1 = 0000 0100 ssmm mrrr. -/
  | subi (ss : BitVec 2) (ea : EaField)
  /-- R106, ADDI: immediate operation. w1 = 0000 0110 ssmm mrrr. -/
  | addi (ss : BitVec 2) (ea : EaField)
  /-- R107, EORI: immediate operation. w1 = 0000 1010 ssmm mrrr. -/
  | eori (ss : BitVec 2) (ea : EaField)
  /-- R108, CMPI: immediate operation. w1 = 0000 1100 ssmm mrrr. -/
  | cmpi (ss : BitVec 2) (ea : EaField)
  /-- R109, MOVES: move to/from address space. w1 = 0000 1110 ssmm mrrr. -/
  | moves (ss : BitVec 2) (ea : EaField)
  -- group 0001
  /-- R112, MOVE: move data. w1 = 0001 RRRM MMmm mrrr. -/
  | moveB (src : EaField) (dst : EaField)
  -- group 0010
  /-- R111, MOVEA: move address. w1 = 0010 aaa0 01mm mrrr. -/
  | moveaL (an : RegNum) (ea : EaField)
  /-- R112, MOVE: move data. w1 = 0010 RRRM MMmm mrrr. -/
  | moveL (src : EaField) (dst : EaField)
  -- group 0011
  /-- R111, MOVEA: move address. w1 = 0011 aaa0 01mm mrrr. -/
  | moveaW (an : RegNum) (ea : EaField)
  /-- R112, MOVE: move data. w1 = 0011 RRRM MMmm mrrr. -/
  | moveW (src : EaField) (dst : EaField)
  -- group 0100
  /-- R114, ILLEGAL: take illegal instruction trap. w1 = 0100 1010 1111 1100. -/
  | illegal
  /-- R115, BGND: enter background mode. w1 = 0100 1010 1111 1010. -/
  | bgnd
  /-- R116, RESET: reset external devices. w1 = 0100 1110 0111 0000. -/
  | reset
  /-- R117, NOP: no operation. w1 = 0100 1110 0111 0001. -/
  | nop
  /-- R118, STOP: load status register and stop. w1 = 0100 1110 0111 0010. -/
  | stop
  /-- R119, RTE: return from exception. w1 = 0100 1110 0111 0011. -/
  | rte
  /-- R120, RTD: return and deallocate. w1 = 0100 1110 0111 0100. -/
  | rtd
  /-- R121, RTS: return from subroutine. w1 = 0100 1110 0111 0101. -/
  | rts
  /-- R122, TRAPV: trap on overflow. w1 = 0100 1110 0111 0110. -/
  | trapv
  /-- R123, RTR: return and restore condition codes. w1 = 0100 1110 0111 0111. -/
  | rtr
  /-- R124, MOVEC from a control register. w1 = 0100 1110 0111 1010. -/
  | movecFrom
  /-- R125, MOVEC to a control register. w1 = 0100 1110 0111 1011. -/
  | movecTo
  /-- R126, TRAP: trap. w1 = 0100 1110 0100 vvvv. -/
  | trap (vector : BitVec 4)
  /-- R127, LINK.W: link and allocate. w1 = 0100 1110 0101 0aaa. -/
  | linkW (an : RegNum)
  /-- R128, UNLK: unlink. w1 = 0100 1110 0101 1aaa. -/
  | unlk (an : RegNum)
  /-- R129, MOVE to USP. w1 = 0100 1110 0110 0aaa. -/
  | moveToUsp (an : RegNum)
  /-- R130, MOVE from USP. w1 = 0100 1110 0110 1aaa. -/
  | moveFromUsp (an : RegNum)
  /-- R131, JSR: jump to subroutine. w1 = 0100 1110 10mm mrrr. -/
  | jsr (ea : EaField)
  /-- R132, JMP: jump. w1 = 0100 1110 11mm mrrr. -/
  | jmp (ea : EaField)
  /-- R133, LINK.L: link and allocate, long displacement. w1 = 0100 1000 0000 1aaa. -/
  | linkL (an : RegNum)
  /-- R134, NBCD: negate decimal with extend. w1 = 0100 1000 00mm mrrr. -/
  | nbcd (ea : EaField)
  /-- R135, SWAP: swap register halves. w1 = 0100 1000 0100 0ddd. -/
  | swap (dn : RegNum)
  /-- R136, BKPT: breakpoint. w1 = 0100 1000 0100 1vvv. -/
  | bkpt (vector : BitVec 3)
  /-- R137, PEA: push effective address. w1 = 0100 1000 01mm mrrr. -/
  | pea (ea : EaField)
  /-- R138, EXT.W: sign-extend byte to word. w1 = 0100 1000 1000 0ddd. -/
  | extW (dn : RegNum)
  /-- R139, EXT.L: sign-extend word to long. w1 = 0100 1000 1100 0ddd. -/
  | extL (dn : RegNum)
  /-- R140, EXTB.L: sign-extend byte to long. w1 = 0100 1001 1100 0ddd. -/
  | extbL (dn : RegNum)
  /-- R141, MOVEM registers to memory. w1 = 0100 1000 1lmm mrrr. -/
  | movemStore (long : Bool) (ea : EaField)
  /-- R142, MOVEM memory to registers. w1 = 0100 1100 1lmm mrrr. -/
  | movemLoad (long : Bool) (ea : EaField)
  /-- R143, MOVE from SR. w1 = 0100 0000 11mm mrrr. -/
  | moveFromSr (ea : EaField)
  /-- R144, MOVE from CCR. w1 = 0100 0010 11mm mrrr. -/
  | moveFromCcr (ea : EaField)
  /-- R145, MOVE to CCR. w1 = 0100 0100 11mm mrrr. -/
  | moveToCcr (ea : EaField)
  /-- R146, MOVE to SR. w1 = 0100 0110 11mm mrrr. -/
  | moveToSr (ea : EaField)
  /-- R147, NEGX: negate with extend. w1 = 0100 0000 ssmm mrrr. -/
  | negx (ss : BitVec 2) (ea : EaField)
  /-- R148, CLR: clear. w1 = 0100 0010 ssmm mrrr. -/
  | clr (ss : BitVec 2) (ea : EaField)
  /-- R149, NEG: negate. w1 = 0100 0100 ssmm mrrr. -/
  | neg (ss : BitVec 2) (ea : EaField)
  /-- R150, NOT: logical complement. w1 = 0100 0110 ssmm mrrr. -/
  | not (ss : BitVec 2) (ea : EaField)
  /-- R151, TAS: test and set. w1 = 0100 1010 11mm mrrr. -/
  | tas (ea : EaField)
  /-- R152, TST: test an operand. w1 = 0100 1010 ssmm mrrr. -/
  | tst (ss : BitVec 2) (ea : EaField)
  /-- R153, MULU.L: unsigned multiply long. w1 = 0100 1100 00mm mrrr; w2 = -ddd 0i-- ---- -ddd. -/
  | muluL (ea : EaField) (dl : RegNum) (is64 : Bool) (dh : RegNum)
  /-- R154, MULS.L: signed multiply long. w1 = 0100 1100 00mm mrrr; w2 = -ddd 1i-- ---- -ddd. -/
  | mulsL (ea : EaField) (dl : RegNum) (is64 : Bool) (dh : RegNum)
  /-- R155, DIVU.L with 64-bit dividend. w1 = 0100 1100 01mm mrrr; w2 = -ddd 01-- ---- -ddd. -/
  | divuL64 (ea : EaField) (dq : RegNum) (dr : RegNum)
  /-- R156, DIVU.L / DIVUL.L with 32-bit dividend. w1 = 0100 1100 01mm mrrr; w2 = -ddd 00-- ---- -ddd. -/
  | divuL32 (ea : EaField) (dq : RegNum) (dr : RegNum)
  /-- R157, DIVS.L with 64-bit dividend. w1 = 0100 1100 01mm mrrr; w2 = -ddd 11-- ---- -ddd. -/
  | divsL64 (ea : EaField) (dq : RegNum) (dr : RegNum)
  /-- R158, DIVS.L / DIVSL.L with 32-bit dividend. w1 = 0100 1100 01mm mrrr; w2 = -ddd 10-- ---- -ddd. -/
  | divsL32 (ea : EaField) (dq : RegNum) (dr : RegNum)
  /-- R159, CHK.L: check register against bound. w1 = 0100 ddd1 00mm mrrr. -/
  | chkL (dn : RegNum) (ea : EaField)
  /-- R160, CHK.W: check register against bound. w1 = 0100 ddd1 10mm mrrr. -/
  | chkW (dn : RegNum) (ea : EaField)
  /-- R161, LEA: load effective address. w1 = 0100 aaa1 11mm mrrr. -/
  | lea (an : RegNum) (ea : EaField)
  -- group 0101
  /-- R163, DBcc: test condition, decrement and branch. w1 = 0101 cccc 1100 1ddd. -/
  | dbcc (cond : BitVec 4) (dn : RegNum)
  /-- R164, TRAPcc.W: trap on condition with operand. w1 = 0101 cccc 1111 1010. -/
  | trapccW (cond : BitVec 4)
  /-- R165, TRAPcc.L: trap on condition with operand. w1 = 0101 cccc 1111 1011. -/
  | trapccL (cond : BitVec 4)
  /-- R166, TRAPcc: trap on condition. w1 = 0101 cccc 1111 1100. -/
  | trapcc (cond : BitVec 4)
  /-- R167, Scc: set according to condition. w1 = 0101 cccc 11mm mrrr. -/
  | scc (cond : BitVec 4) (ea : EaField)
  /-- R168, ADDQ: add quick. w1 = 0101 ddd0 ssmm mrrr. -/
  | addq (data : BitVec 3) (ss : BitVec 2) (ea : EaField)
  /-- R169, SUBQ: subtract quick. w1 = 0101 ddd1 ssmm mrrr. -/
  | subq (data : BitVec 3) (ss : BitVec 2) (ea : EaField)
  -- group 0110
  /-- R171, BRA: branch always. w1 = 0110 0000 dddd dddd. -/
  | bra (disp : Byte)
  /-- R172, BSR: branch to subroutine. w1 = 0110 0001 dddd dddd. -/
  | bsr (disp : Byte)
  /-- R173, Bcc: branch conditionally. w1 = 0110 cccc dddd dddd. -/
  | bcc (cond : BitVec 4) (disp : Byte)
  -- group 0111
  /-- R174, MOVEQ: move quick. w1 = 0111 ddd0 dddd dddd. -/
  | moveq (dn : RegNum) (data : Byte)
  -- group 1000
  /-- R177, DIVU.W: unsigned divide word. w1 = 1000 ddd0 11mm mrrr. -/
  | divuW (dn : RegNum) (ea : EaField)
  /-- R178, DIVS.W: signed divide word. w1 = 1000 ddd1 11mm mrrr. -/
  | divsW (dn : RegNum) (ea : EaField)
  /-- R179, SBCD: subtract decimal with extend. w1 = 1000 rrr1 0000 mrrr. -/
  | sbcd (rx : RegNum) (mem : Bool) (ry : RegNum)
  /-- R180, PACK: pack BCD. w1 = 1000 rrr1 0100 mrrr. -/
  | pack (rx : RegNum) (mem : Bool) (ry : RegNum)
  /-- R181, UNPK: unpack BCD. w1 = 1000 rrr1 1000 mrrr. -/
  | unpk (rx : RegNum) (mem : Bool) (ry : RegNum)
  /-- R182, OR: inclusive OR. w1 = 1000 dddt ssmm mrrr. -/
  | or (dn : RegNum) (toEa : Bool) (ss : BitVec 2) (ea : EaField)
  -- group 1001
  /-- R183, SUBA: subtract address. w1 = 1001 aaal 11mm mrrr. -/
  | suba (an : RegNum) (long : Bool) (ea : EaField)
  /-- R184, SUBX: subtract with extend. w1 = 1001 rrr1 ss00 mrrr. -/
  | subx (rx : RegNum) (ss : BitVec 2) (mem : Bool) (ry : RegNum)
  /-- R185, SUB: subtract. w1 = 1001 dddt ssmm mrrr. -/
  | sub (dn : RegNum) (toEa : Bool) (ss : BitVec 2) (ea : EaField)
  -- group 1011
  /-- R186, CMPA: compare address. w1 = 1011 aaal 11mm mrrr. -/
  | cmpa (an : RegNum) (long : Bool) (ea : EaField)
  /-- R187, CMPM: compare memory. w1 = 1011 aaa1 ss00 1aaa. -/
  | cmpm (ax : RegNum) (ss : BitVec 2) (ay : RegNum)
  /-- R188, CMP: compare. w1 = 1011 ddd0 ssmm mrrr. -/
  | cmp (dn : RegNum) (ss : BitVec 2) (ea : EaField)
  /-- R189, EOR: exclusive OR. w1 = 1011 ddd1 ssmm mrrr. -/
  | eor (dn : RegNum) (ss : BitVec 2) (ea : EaField)
  -- group 1100
  /-- R190, MULU.W: unsigned multiply word. w1 = 1100 ddd0 11mm mrrr. -/
  | muluW (dn : RegNum) (ea : EaField)
  /-- R191, MULS.W: signed multiply word. w1 = 1100 ddd1 11mm mrrr. -/
  | mulsW (dn : RegNum) (ea : EaField)
  /-- R192, ABCD: add decimal with extend. w1 = 1100 rrr1 0000 mrrr. -/
  | abcd (rx : RegNum) (mem : Bool) (ry : RegNum)
  /-- R193, EXG: exchange registers. w1 = 1100 rrr1 0100 0rrr. -/
  | exgDD (rx : RegNum) (ry : RegNum)
  /-- R193, EXG: exchange registers. w1 = 1100 rrr1 0100 1rrr. -/
  | exgAA (rx : RegNum) (ry : RegNum)
  /-- R193, EXG: exchange registers. w1 = 1100 rrr1 1000 1rrr. -/
  | exgDA (rx : RegNum) (ry : RegNum)
  /-- R194, AND: logical AND. w1 = 1100 dddt ssmm mrrr. -/
  | and (dn : RegNum) (toEa : Bool) (ss : BitVec 2) (ea : EaField)
  -- group 1101
  /-- R195, ADDA: add address. w1 = 1101 aaal 11mm mrrr. -/
  | adda (an : RegNum) (long : Bool) (ea : EaField)
  /-- R196, ADDX: add with extend. w1 = 1101 rrr1 ss00 mrrr. -/
  | addx (rx : RegNum) (ss : BitVec 2) (mem : Bool) (ry : RegNum)
  /-- R197, ADD: add. w1 = 1101 dddt ssmm mrrr. -/
  | add (dn : RegNum) (toEa : Bool) (ss : BitVec 2) (ea : EaField)
  -- group 1110
  /-- R199, BFTST: test bit field. w1 = 1110 1000 11mm mrrr. -/
  | bftst (ea : EaField)
  /-- R200, BFEXTU: extract bit field unsigned. w1 = 1110 1001 11mm mrrr. -/
  | bfextu (ea : EaField)
  /-- R201, BFCHG: change bit field. w1 = 1110 1010 11mm mrrr. -/
  | bfchg (ea : EaField)
  /-- R202, BFEXTS: extract bit field signed. w1 = 1110 1011 11mm mrrr. -/
  | bfexts (ea : EaField)
  /-- R203, BFCLR: clear bit field. w1 = 1110 1100 11mm mrrr. -/
  | bfclr (ea : EaField)
  /-- R204, BFFFO: find first one in bit field. w1 = 1110 1101 11mm mrrr. -/
  | bfffo (ea : EaField)
  /-- R205, BFSET: set bit field. w1 = 1110 1110 11mm mrrr. -/
  | bfset (ea : EaField)
  /-- R206, BFINS: insert bit field. w1 = 1110 1111 11mm mrrr. -/
  | bfins (ea : EaField)
  /-- R207, ASR memory: shift/rotate a word in memory by one. w1 = 1110 0000 11mm mrrr. -/
  | asrEa (ea : EaField)
  /-- R208, ASL memory: shift/rotate a word in memory by one. w1 = 1110 0001 11mm mrrr. -/
  | aslEa (ea : EaField)
  /-- R209, LSR memory: shift/rotate a word in memory by one. w1 = 1110 0010 11mm mrrr. -/
  | lsrEa (ea : EaField)
  /-- R210, LSL memory: shift/rotate a word in memory by one. w1 = 1110 0011 11mm mrrr. -/
  | lslEa (ea : EaField)
  /-- R211, ROXR memory: shift/rotate a word in memory by one. w1 = 1110 0100 11mm mrrr. -/
  | roxrEa (ea : EaField)
  /-- R212, ROXL memory: shift/rotate a word in memory by one. w1 = 1110 0101 11mm mrrr. -/
  | roxlEa (ea : EaField)
  /-- R213, ROR memory: shift/rotate a word in memory by one. w1 = 1110 0110 11mm mrrr. -/
  | rorEa (ea : EaField)
  /-- R214, ROL memory: shift/rotate a word in memory by one. w1 = 1110 0111 11mm mrrr. -/
  | rolEa (ea : EaField)
  /-- R215, ASR register: shift/rotate a data register. w1 = 1110 ccc0 ssi0 0ddd. -/
  | asrDy (cnt : BitVec 3) (ss : BitVec 2) (ir : Bool) (dy : RegNum)
  /-- R216, ASL register: shift/rotate a data register. w1 = 1110 ccc1 ssi0 0ddd. -/
  | aslDy (cnt : BitVec 3) (ss : BitVec 2) (ir : Bool) (dy : RegNum)
  /-- R217, LSR register: shift/rotate a data register. w1 = 1110 ccc0 ssi0 1ddd. -/
  | lsrDy (cnt : BitVec 3) (ss : BitVec 2) (ir : Bool) (dy : RegNum)
  /-- R218, LSL register: shift/rotate a data register. w1 = 1110 ccc1 ssi0 1ddd. -/
  | lslDy (cnt : BitVec 3) (ss : BitVec 2) (ir : Bool) (dy : RegNum)
  /-- R219, ROXR register: shift/rotate a data register. w1 = 1110 ccc0 ssi1 0ddd. -/
  | roxrDy (cnt : BitVec 3) (ss : BitVec 2) (ir : Bool) (dy : RegNum)
  /-- R220, ROXL register: shift/rotate a data register. w1 = 1110 ccc1 ssi1 0ddd. -/
  | roxlDy (cnt : BitVec 3) (ss : BitVec 2) (ir : Bool) (dy : RegNum)
  /-- R221, ROR register: shift/rotate a data register. w1 = 1110 ccc0 ssi1 1ddd. -/
  | rorDy (cnt : BitVec 3) (ss : BitVec 2) (ir : Bool) (dy : RegNum)
  /-- R222, ROL register: shift/rotate a data register. w1 = 1110 ccc1 ssi1 1ddd. -/
  | rolDy (cnt : BitVec 3) (ss : BitVec 2) (ir : Bool) (dy : RegNum)
  -- group 1111
  /-- R225, FMOVECR: move constant ROM. w1 = 1111 0010 0000 0000; w2 = 0101 11DD Dooo oooo. -/
  | fmovecr (dst : RegNum) (off : BitVec 7)
  /-- R226, FMOVE: move. w1 = 1111 0010 00mm mrrr; w2 = 0r0s ssDD D000 0000. -/
  | fmove (ea : EaField) (rm : Bool) (src : RegNum) (dst : RegNum)
  /-- R227, FINT: integer part. w1 = 1111 0010 00mm mrrr; w2 = 0r0s ssDD D000 0001. -/
  | fint (ea : EaField) (rm : Bool) (src : RegNum) (dst : RegNum)
  /-- R228, FSINH: hyperbolic sine. w1 = 1111 0010 00mm mrrr; w2 = 0r0s ssDD D000 0010. -/
  | fsinh (ea : EaField) (rm : Bool) (src : RegNum) (dst : RegNum)
  /-- R229, FINTRZ: integer part, round to zero. w1 = 1111 0010 00mm mrrr; w2 = 0r0s ssDD D000 0011. -/
  | fintrz (ea : EaField) (rm : Bool) (src : RegNum) (dst : RegNum)
  /-- R230, FSQRT: square root. w1 = 1111 0010 00mm mrrr; w2 = 0r0s ssDD D000 0100. -/
  | fsqrt (ea : EaField) (rm : Bool) (src : RegNum) (dst : RegNum)
  /-- R231, FLOGNP1: natural logarithm of (x + 1). w1 = 1111 0010 00mm mrrr; w2 = 0r0s ssDD D000 0110. -/
  | flognp1 (ea : EaField) (rm : Bool) (src : RegNum) (dst : RegNum)
  /-- R232, FETOXM1: e to the x, minus 1. w1 = 1111 0010 00mm mrrr; w2 = 0r0s ssDD D000 1000. -/
  | fetoxm1 (ea : EaField) (rm : Bool) (src : RegNum) (dst : RegNum)
  /-- R233, FTANH: hyperbolic tangent. w1 = 1111 0010 00mm mrrr; w2 = 0r0s ssDD D000 1001. -/
  | ftanh (ea : EaField) (rm : Bool) (src : RegNum) (dst : RegNum)
  /-- R234, FATAN: arc tangent. w1 = 1111 0010 00mm mrrr; w2 = 0r0s ssDD D000 1010. -/
  | fatan (ea : EaField) (rm : Bool) (src : RegNum) (dst : RegNum)
  /-- R235, FASIN: arc sine. w1 = 1111 0010 00mm mrrr; w2 = 0r0s ssDD D000 1100. -/
  | fasin (ea : EaField) (rm : Bool) (src : RegNum) (dst : RegNum)
  /-- R236, FATANH: hyperbolic arc tangent. w1 = 1111 0010 00mm mrrr; w2 = 0r0s ssDD D000 1101. -/
  | fatanh (ea : EaField) (rm : Bool) (src : RegNum) (dst : RegNum)
  /-- R237, FSIN: sine. w1 = 1111 0010 00mm mrrr; w2 = 0r0s ssDD D000 1110. -/
  | fsin (ea : EaField) (rm : Bool) (src : RegNum) (dst : RegNum)
  /-- R238, FTAN: tangent. w1 = 1111 0010 00mm mrrr; w2 = 0r0s ssDD D000 1111. -/
  | ftan (ea : EaField) (rm : Bool) (src : RegNum) (dst : RegNum)
  /-- R239, FETOX: e to the x. w1 = 1111 0010 00mm mrrr; w2 = 0r0s ssDD D001 0000. -/
  | fetox (ea : EaField) (rm : Bool) (src : RegNum) (dst : RegNum)
  /-- R240, FTWOTOX: 2 to the x. w1 = 1111 0010 00mm mrrr; w2 = 0r0s ssDD D001 0001. -/
  | ftwotox (ea : EaField) (rm : Bool) (src : RegNum) (dst : RegNum)
  /-- R241, FTENTOX: 10 to the x. w1 = 1111 0010 00mm mrrr; w2 = 0r0s ssDD D001 0010. -/
  | ftentox (ea : EaField) (rm : Bool) (src : RegNum) (dst : RegNum)
  /-- R242, FLOGN: natural logarithm. w1 = 1111 0010 00mm mrrr; w2 = 0r0s ssDD D001 0100. -/
  | flogn (ea : EaField) (rm : Bool) (src : RegNum) (dst : RegNum)
  /-- R243, FLOG10: base-10 logarithm. w1 = 1111 0010 00mm mrrr; w2 = 0r0s ssDD D001 0101. -/
  | flog10 (ea : EaField) (rm : Bool) (src : RegNum) (dst : RegNum)
  /-- R244, FLOG2: base-2 logarithm. w1 = 1111 0010 00mm mrrr; w2 = 0r0s ssDD D001 0110. -/
  | flog2 (ea : EaField) (rm : Bool) (src : RegNum) (dst : RegNum)
  /-- R245, FABS: absolute value. w1 = 1111 0010 00mm mrrr; w2 = 0r0s ssDD D001 1000. -/
  | fabs (ea : EaField) (rm : Bool) (src : RegNum) (dst : RegNum)
  /-- R246, FCOSH: hyperbolic cosine. w1 = 1111 0010 00mm mrrr; w2 = 0r0s ssDD D001 1001. -/
  | fcosh (ea : EaField) (rm : Bool) (src : RegNum) (dst : RegNum)
  /-- R247, FNEG: negate. w1 = 1111 0010 00mm mrrr; w2 = 0r0s ssDD D001 1010. -/
  | fneg (ea : EaField) (rm : Bool) (src : RegNum) (dst : RegNum)
  /-- R248, FACOS: arc cosine. w1 = 1111 0010 00mm mrrr; w2 = 0r0s ssDD D001 1100. -/
  | facos (ea : EaField) (rm : Bool) (src : RegNum) (dst : RegNum)
  /-- R249, FCOS: cosine. w1 = 1111 0010 00mm mrrr; w2 = 0r0s ssDD D001 1101. -/
  | fcos (ea : EaField) (rm : Bool) (src : RegNum) (dst : RegNum)
  /-- R250, FGETEXP: get exponent. w1 = 1111 0010 00mm mrrr; w2 = 0r0s ssDD D001 1110. -/
  | fgetexp (ea : EaField) (rm : Bool) (src : RegNum) (dst : RegNum)
  /-- R251, FGETMAN: get mantissa. w1 = 1111 0010 00mm mrrr; w2 = 0r0s ssDD D001 1111. -/
  | fgetman (ea : EaField) (rm : Bool) (src : RegNum) (dst : RegNum)
  /-- R252, FDIV: divide. w1 = 1111 0010 00mm mrrr; w2 = 0r0s ssDD D010 0000. -/
  | fdiv (ea : EaField) (rm : Bool) (src : RegNum) (dst : RegNum)
  /-- R253, FMOD: modulo remainder. w1 = 1111 0010 00mm mrrr; w2 = 0r0s ssDD D010 0001. -/
  | fmod (ea : EaField) (rm : Bool) (src : RegNum) (dst : RegNum)
  /-- R254, FADD: add. w1 = 1111 0010 00mm mrrr; w2 = 0r0s ssDD D010 0010. -/
  | fadd (ea : EaField) (rm : Bool) (src : RegNum) (dst : RegNum)
  /-- R255, FMUL: multiply. w1 = 1111 0010 00mm mrrr; w2 = 0r0s ssDD D010 0011. -/
  | fmul (ea : EaField) (rm : Bool) (src : RegNum) (dst : RegNum)
  /-- R256, FSGLDIV: single-precision divide. w1 = 1111 0010 00mm mrrr; w2 = 0r0s ssDD D010 0100. -/
  | fsgldiv (ea : EaField) (rm : Bool) (src : RegNum) (dst : RegNum)
  /-- R257, FREM: IEEE remainder. w1 = 1111 0010 00mm mrrr; w2 = 0r0s ssDD D010 0101. -/
  | frem (ea : EaField) (rm : Bool) (src : RegNum) (dst : RegNum)
  /-- R258, FSCALE: scale exponent. w1 = 1111 0010 00mm mrrr; w2 = 0r0s ssDD D010 0110. -/
  | fscale (ea : EaField) (rm : Bool) (src : RegNum) (dst : RegNum)
  /-- R259, FSGLMUL: single-precision multiply. w1 = 1111 0010 00mm mrrr; w2 = 0r0s ssDD D010 0111. -/
  | fsglmul (ea : EaField) (rm : Bool) (src : RegNum) (dst : RegNum)
  /-- R260, FSUB: subtract. w1 = 1111 0010 00mm mrrr; w2 = 0r0s ssDD D010 1000. -/
  | fsub (ea : EaField) (rm : Bool) (src : RegNum) (dst : RegNum)
  /-- R261, FSINCOS: simultaneous sine and cosine. w1 = 1111 0010 00mm mrrr; w2 = 0r0s ssff f011 0ccc. -/
  | fsincos (ea : EaField) (rm : Bool) (src : RegNum) (fps : RegNum) (fpc : RegNum)
  /-- R262, FCMP: compare. w1 = 1111 0010 00mm mrrr; w2 = 0r0s ssDD D011 1000. -/
  | fcmp (ea : EaField) (rm : Bool) (src : RegNum) (dst : RegNum)
  /-- R263, FTST: test. w1 = 1111 0010 00mm mrrr; w2 = 0r0s ss-- -011 1010. -/
  | ftst (ea : EaField) (rm : Bool) (src : RegNum)
  /-- R264, FSMOVE: move, rounded to single. w1 = 1111 0010 00mm mrrr; w2 = 0r0s ssDD D100 0000. -/
  | fsmove (ea : EaField) (rm : Bool) (src : RegNum) (dst : RegNum)
  /-- R265, FSSQRT: square root, rounded to single. w1 = 1111 0010 00mm mrrr; w2 = 0r0s ssDD D100 0001. -/
  | fssqrt (ea : EaField) (rm : Bool) (src : RegNum) (dst : RegNum)
  /-- R266, FDMOVE: move, rounded to double. w1 = 1111 0010 00mm mrrr; w2 = 0r0s ssDD D100 0100. -/
  | fdmove (ea : EaField) (rm : Bool) (src : RegNum) (dst : RegNum)
  /-- R267, FDSQRT: square root, rounded to double. w1 = 1111 0010 00mm mrrr; w2 = 0r0s ssDD D100 0101. -/
  | fdsqrt (ea : EaField) (rm : Bool) (src : RegNum) (dst : RegNum)
  /-- R268, FSABS: absolute value, rounded to single. w1 = 1111 0010 00mm mrrr; w2 = 0r0s ssDD D101 1000. -/
  | fsabs (ea : EaField) (rm : Bool) (src : RegNum) (dst : RegNum)
  /-- R269, FSNEG: negate, rounded to single. w1 = 1111 0010 00mm mrrr; w2 = 0r0s ssDD D101 1010. -/
  | fsneg (ea : EaField) (rm : Bool) (src : RegNum) (dst : RegNum)
  /-- R270, FDABS: absolute value, rounded to double. w1 = 1111 0010 00mm mrrr; w2 = 0r0s ssDD D101 1100. -/
  | fdabs (ea : EaField) (rm : Bool) (src : RegNum) (dst : RegNum)
  /-- R271, FDNEG: negate, rounded to double. w1 = 1111 0010 00mm mrrr; w2 = 0r0s ssDD D101 1110. -/
  | fdneg (ea : EaField) (rm : Bool) (src : RegNum) (dst : RegNum)
  /-- R272, FSDIV: divide, rounded to single. w1 = 1111 0010 00mm mrrr; w2 = 0r0s ssDD D110 0000. -/
  | fsdiv (ea : EaField) (rm : Bool) (src : RegNum) (dst : RegNum)
  /-- R273, FSADD: add, rounded to single. w1 = 1111 0010 00mm mrrr; w2 = 0r0s ssDD D110 0010. -/
  | fsadd (ea : EaField) (rm : Bool) (src : RegNum) (dst : RegNum)
  /-- R274, FSMUL: multiply, rounded to single. w1 = 1111 0010 00mm mrrr; w2 = 0r0s ssDD D110 0011. -/
  | fsmul (ea : EaField) (rm : Bool) (src : RegNum) (dst : RegNum)
  /-- R275, FDDIV: divide, rounded to double. w1 = 1111 0010 00mm mrrr; w2 = 0r0s ssDD D110 0100. -/
  | fddiv (ea : EaField) (rm : Bool) (src : RegNum) (dst : RegNum)
  /-- R276, FDADD: add, rounded to double. w1 = 1111 0010 00mm mrrr; w2 = 0r0s ssDD D110 0110. -/
  | fdadd (ea : EaField) (rm : Bool) (src : RegNum) (dst : RegNum)
  /-- R277, FDMUL: multiply, rounded to double. w1 = 1111 0010 00mm mrrr; w2 = 0r0s ssDD D110 0111. -/
  | fdmul (ea : EaField) (rm : Bool) (src : RegNum) (dst : RegNum)
  /-- R278, FSSUB: subtract, rounded to single. w1 = 1111 0010 00mm mrrr; w2 = 0r0s ssDD D110 1000. -/
  | fssub (ea : EaField) (rm : Bool) (src : RegNum) (dst : RegNum)
  /-- R279, FDSUB: subtract, rounded to double. w1 = 1111 0010 00mm mrrr; w2 = 0r0s ssDD D110 1100. -/
  | fdsub (ea : EaField) (rm : Bool) (src : RegNum) (dst : RegNum)
  /-- R280, FMOVE to memory or data register. w1 = 1111 0010 00mm mrrr; w2 = 011f ffff fkkk kkkk. -/
  | fmoveToEa (ea : EaField) (fmt : BitVec 3) (fpm : RegNum) (k : BitVec 7)
  /-- R281, FMOVE to one FPU control register. w1 = 1111 0010 00mm mrrr; w2 = 1001 00-- ---- ----. -/
  | fmoveToFpcr (ea : EaField)
  /-- R281, FMOVE to one FPU control register. w1 = 1111 0010 00mm mrrr; w2 = 1000 10-- ---- ----. -/
  | fmoveToFpsr (ea : EaField)
  /-- R281, FMOVE to one FPU control register. w1 = 1111 0010 00mm mrrr; w2 = 1000 01-- ---- ----. -/
  | fmoveToFpiar (ea : EaField)
  /-- R282, FMOVE from one FPU control register. w1 = 1111 0010 00mm mrrr; w2 = 1011 00-- ---- ----. -/
  | fmoveFromFpcr (ea : EaField)
  /-- R282, FMOVE from one FPU control register. w1 = 1111 0010 00mm mrrr; w2 = 1010 10-- ---- ----. -/
  | fmoveFromFpsr (ea : EaField)
  /-- R282, FMOVE from one FPU control register. w1 = 1111 0010 00mm mrrr; w2 = 1010 01-- ---- ----. -/
  | fmoveFromFpiar (ea : EaField)
  /-- R283, FMOVEM to several FPU control registers. w1 = 1111 0010 00mm mrrr; w2 = 100l ll-- ---- ----. -/
  | fmovemToCtl (ea : EaField) (list : BitVec 3)
  /-- R284, FMOVEM from several FPU control registers. w1 = 1111 0010 00mm mrrr; w2 = 101l ll-- ---- ----. -/
  | fmovemFromCtl (ea : EaField) (list : BitVec 3)
  /-- R285, FMOVEM memory to FP data registers. w1 = 1111 0010 00mm mrrr; w2 = 110m m--- llll llll. -/
  | fmovemToFp (ea : EaField) (mode : BitVec 2) (list : Byte)
  /-- R286, FMOVEM FP data registers to memory. w1 = 1111 0010 00mm mrrr; w2 = 111m m--- llll llll. -/
  | fmovemFromFp (ea : EaField) (mode : BitVec 2) (list : Byte)
  /-- R287, FDBcc: FPU test condition, decrement and branch. w1 = 1111 0010 0100 1ddd. -/
  | fdbcc (dn : RegNum)
  /-- R288, FTRAPcc.W: FPU trap on condition. w1 = 1111 0010 0111 1010. -/
  | ftrapccW
  /-- R289, FTRAPcc.L: FPU trap on condition. w1 = 1111 0010 0111 1011. -/
  | ftrapccL
  /-- R290, FTRAPcc: FPU trap on condition. w1 = 1111 0010 0111 1100. -/
  | ftrapcc
  /-- R291, FScc: FPU set according to condition. w1 = 1111 0010 01mm mrrr. -/
  | fscc (ea : EaField)
  /-- R292, FNOP: FPU no operation. w1 = 1111 0010 1000 0000; w2 = 0000 0000 0000 0000. -/
  | fnop
  /-- R293, FBcc.W: FPU branch conditionally. w1 = 1111 0010 10cc cccc. -/
  | fbccW (cond : BitVec 6)
  /-- R294, FBcc.L: FPU branch conditionally. w1 = 1111 0010 11cc cccc. -/
  | fbccL (cond : BitVec 6)
  /-- R295, FSAVE: save internal FPU state. w1 = 1111 0011 00mm mrrr. -/
  | fsave (ea : EaField)
  /-- R296, FRESTORE: restore internal FPU state. w1 = 1111 0011 01mm mrrr. -/
  | frestore (ea : EaField)
deriving DecidableEq, Repr

end Sys2Proof
end

