-- ==== Sys2Proof/WellFormed.lean ====
section
/-! DEFINITION. Which constructors of `Instr` are well formed: those whose words no earlier row of the group takes
(30_encoding.md R42, R45, and the corner cases of each rule that name the earlier rows). A field value outside this
check would be the encoding of another row. -/
namespace Sys2Proof

/-- The effective address is not of this mode. -/
def EaField.notMode (ea : EaField) (m : BitVec 3) : Bool := ea.mode != m

/-- The effective address is not this mode and register. -/
def EaField.isNot (ea : EaField) (m : BitVec 3) (r : RegNum) : Bool := !(ea.mode == m && ea.reg == r)

/-- The effective address is a data or address register, mode 0 or 1. -/
def EaField.isRegister (ea : EaField) : Bool := ea.mode == 0 || ea.mode == 1

/-- A size field that names a size: code 11 belongs to other rows (30_encoding.md R73). -/
def sizeGiven (ss : BitVec 2) : Bool := ss != 3

/-- The register forms of AND with `w1[8]` = 1 that ABCD and EXG take (45_arith_logic.md R192, R193). -/
def exgOrAbcd (ss : BitVec 2) (ea : EaField) : Bool :=
  (ss == 0 && ea.isRegister) || (ss == 1 && ea.isRegister) || (ss == 2 && ea.mode == 1)

/-- The command word is not FMOVECR's: effective-address field 0 with source code 111 (47_fpu_ops.md R225). -/
def notRomConstant (ea : EaField) (rm : Bool) (src : BitVec 3) : Bool :=
  !(rm && src == 7 && ea.mode == 0 && ea.reg == 0)

/-- A control-register list that FMOVEM takes: the lists of one register are FMOVE's (49_fpu_control.md R283). -/
def notOneRegister (list : BitVec 3) : Bool := list != 1 && list != 2 && list != 4

/-- Well-formedness, constructor by constructor. -/
def Instr.wf : Instr → Bool
  | .oriToCcr => true
  | .oriToSr => true
  | .andiToCcr => true
  | .andiToSr => true
  | .eoriToCcr => true
  | .eoriToSr => true
  | .movep _ _ _ _ => true
  | .btstDn _ ea => EaField.notMode ea 1
  | .bchgDn _ ea => EaField.notMode ea 1
  | .bclrDn _ ea => EaField.notMode ea 1
  | .bsetDn _ ea => EaField.notMode ea 1
  | .btstImm _ => true
  | .bchgImm _ => true
  | .bclrImm _ => true
  | .bsetImm _ => true
  | .rtm _ => true
  | .callm ea => EaField.notMode ea 0 && EaField.notMode ea 1
  | .cmp2 ss _ _ => sizeGiven ss
  | .chk2 ss _ _ => sizeGiven ss
  | .cas2 _ => true
  | .casB _ => true
  | .casW ea => EaField.isNot ea 7 4
  | .casL ea => EaField.isNot ea 7 4
  | .ori ss ea => sizeGiven ss && !(ss != 2 && !EaField.isNot ea 7 4)
  | .andi ss ea => sizeGiven ss && !(ss != 2 && !EaField.isNot ea 7 4)
  | .subi ss _ => sizeGiven ss
  | .addi ss _ => sizeGiven ss
  | .eori ss ea => sizeGiven ss && !(ss != 2 && !EaField.isNot ea 7 4)
  | .cmpi ss _ => sizeGiven ss
  | .moves ss _ => sizeGiven ss
  | .moveB _ _ => true
  | .moveaL _ _ => true
  | .moveL _ dst => EaField.notMode dst 1
  | .moveaW _ _ => true
  | .moveW _ dst => EaField.notMode dst 1
  | .illegal => true
  | .bgnd => true
  | .reset => true
  | .nop => true
  | .stop => true
  | .rte => true
  | .rtd => true
  | .rts => true
  | .trapv => true
  | .rtr => true
  | .movecFrom => true
  | .movecTo => true
  | .trap _ => true
  | .linkW _ => true
  | .unlk _ => true
  | .moveToUsp _ => true
  | .moveFromUsp _ => true
  | .jsr _ => true
  | .jmp _ => true
  | .linkL _ => true
  | .nbcd ea => EaField.notMode ea 1
  | .swap _ => true
  | .bkpt _ => true
  | .pea ea => EaField.notMode ea 0 && EaField.notMode ea 1
  | .extW _ => true
  | .extL _ => true
  | .extbL _ => true
  | .movemStore _ ea => EaField.notMode ea 0
  | .movemLoad _ _ => true
  | .moveFromSr _ => true
  | .moveFromCcr _ => true
  | .moveToCcr _ => true
  | .moveToSr _ => true
  | .negx ss _ => sizeGiven ss
  | .clr ss _ => sizeGiven ss
  | .neg ss _ => sizeGiven ss
  | .not ss _ => sizeGiven ss
  | .tas ea => EaField.isNot ea 7 2 && EaField.isNot ea 7 4
  | .tst ss _ => sizeGiven ss
  | .muluL _ _ _ _ => true
  | .mulsL _ _ _ _ => true
  | .divuL64 _ _ _ => true
  | .divuL32 _ _ _ => true
  | .divsL64 _ _ _ => true
  | .divsL32 _ _ _ => true
  | .chkL _ _ => true
  | .chkW _ _ => true
  | .lea an ea => !(an == 4 && !EaField.notMode ea 0)
  | .dbcc _ _ => true
  | .trapccW _ => true
  | .trapccL _ => true
  | .trapcc _ => true
  | .scc _ ea => EaField.notMode ea 1 && EaField.isNot ea 7 2 && EaField.isNot ea 7 3 && EaField.isNot ea 7 4
  | .addq _ ss _ => sizeGiven ss
  | .subq _ ss _ => sizeGiven ss
  | .bra _ => true
  | .bsr _ => true
  | .bcc cond _ => cond != 0 && cond != 1
  | .moveq _ _ => true
  | .divuW _ _ => true
  | .divsW _ _ => true
  | .sbcd _ _ _ => true
  | .pack _ _ _ => true
  | .unpk _ _ _ => true
  | .or _ toEa ss ea => sizeGiven ss && !(toEa && EaField.isRegister ea)
  | .suba _ _ _ => true
  | .subx _ ss _ _ => sizeGiven ss
  | .sub _ toEa ss ea => sizeGiven ss && !(toEa && EaField.isRegister ea)
  | .cmpa _ _ _ => true
  | .cmpm _ ss _ => sizeGiven ss
  | .cmp _ ss _ => sizeGiven ss
  | .eor _ ss ea => sizeGiven ss && EaField.notMode ea 1
  | .muluW _ _ => true
  | .mulsW _ _ => true
  | .abcd _ _ _ => true
  | .exgDD _ _ => true
  | .exgAA _ _ => true
  | .exgDA _ _ => true
  | .and _ toEa ss ea => sizeGiven ss && !(toEa && exgOrAbcd ss ea)
  | .adda _ _ _ => true
  | .addx _ ss _ _ => sizeGiven ss
  | .add _ toEa ss ea => sizeGiven ss && !(toEa && EaField.isRegister ea)
  | .bftst _ => true
  | .bfextu _ => true
  | .bfchg _ => true
  | .bfexts _ => true
  | .bfclr _ => true
  | .bfffo _ => true
  | .bfset _ => true
  | .bfins _ => true
  | .asrEa _ => true
  | .aslEa _ => true
  | .lsrEa _ => true
  | .lslEa _ => true
  | .roxrEa _ => true
  | .roxlEa _ => true
  | .rorEa _ => true
  | .rolEa _ => true
  | .asrDy _ ss _ _ => sizeGiven ss
  | .aslDy _ ss _ _ => sizeGiven ss
  | .lsrDy _ ss _ _ => sizeGiven ss
  | .lslDy _ ss _ _ => sizeGiven ss
  | .roxrDy _ ss _ _ => sizeGiven ss
  | .roxlDy _ ss _ _ => sizeGiven ss
  | .rorDy _ ss _ _ => sizeGiven ss
  | .rolDy _ ss _ _ => sizeGiven ss
  | .fmovecr _ _ => true
  | .fmove ea rm src _ => notRomConstant ea rm src
  | .fint ea rm src _ => notRomConstant ea rm src
  | .fsinh ea rm src _ => notRomConstant ea rm src
  | .fintrz ea rm src _ => notRomConstant ea rm src
  | .fsqrt ea rm src _ => notRomConstant ea rm src
  | .flognp1 ea rm src _ => notRomConstant ea rm src
  | .fetoxm1 ea rm src _ => notRomConstant ea rm src
  | .ftanh ea rm src _ => notRomConstant ea rm src
  | .fatan ea rm src _ => notRomConstant ea rm src
  | .fasin ea rm src _ => notRomConstant ea rm src
  | .fatanh ea rm src _ => notRomConstant ea rm src
  | .fsin ea rm src _ => notRomConstant ea rm src
  | .ftan ea rm src _ => notRomConstant ea rm src
  | .fetox ea rm src _ => notRomConstant ea rm src
  | .ftwotox ea rm src _ => notRomConstant ea rm src
  | .ftentox ea rm src _ => notRomConstant ea rm src
  | .flogn ea rm src _ => notRomConstant ea rm src
  | .flog10 ea rm src _ => notRomConstant ea rm src
  | .flog2 ea rm src _ => notRomConstant ea rm src
  | .fabs ea rm src _ => notRomConstant ea rm src
  | .fcosh ea rm src _ => notRomConstant ea rm src
  | .fneg ea rm src _ => notRomConstant ea rm src
  | .facos ea rm src _ => notRomConstant ea rm src
  | .fcos ea rm src _ => notRomConstant ea rm src
  | .fgetexp ea rm src _ => notRomConstant ea rm src
  | .fgetman ea rm src _ => notRomConstant ea rm src
  | .fdiv ea rm src _ => notRomConstant ea rm src
  | .fmod ea rm src _ => notRomConstant ea rm src
  | .fadd ea rm src _ => notRomConstant ea rm src
  | .fmul ea rm src _ => notRomConstant ea rm src
  | .fsgldiv ea rm src _ => notRomConstant ea rm src
  | .frem ea rm src _ => notRomConstant ea rm src
  | .fscale ea rm src _ => notRomConstant ea rm src
  | .fsglmul ea rm src _ => notRomConstant ea rm src
  | .fsub ea rm src _ => notRomConstant ea rm src
  | .fsincos ea rm src _ _ => notRomConstant ea rm src
  | .fcmp ea rm src _ => notRomConstant ea rm src
  | .ftst ea rm src => notRomConstant ea rm src
  | .fsmove ea rm src _ => notRomConstant ea rm src
  | .fssqrt ea rm src _ => notRomConstant ea rm src
  | .fdmove ea rm src _ => notRomConstant ea rm src
  | .fdsqrt ea rm src _ => notRomConstant ea rm src
  | .fsabs ea rm src _ => notRomConstant ea rm src
  | .fsneg ea rm src _ => notRomConstant ea rm src
  | .fdabs ea rm src _ => notRomConstant ea rm src
  | .fdneg ea rm src _ => notRomConstant ea rm src
  | .fsdiv ea rm src _ => notRomConstant ea rm src
  | .fsadd ea rm src _ => notRomConstant ea rm src
  | .fsmul ea rm src _ => notRomConstant ea rm src
  | .fddiv ea rm src _ => notRomConstant ea rm src
  | .fdadd ea rm src _ => notRomConstant ea rm src
  | .fdmul ea rm src _ => notRomConstant ea rm src
  | .fssub ea rm src _ => notRomConstant ea rm src
  | .fdsub ea rm src _ => notRomConstant ea rm src
  | .fmoveToEa _ _ _ _ => true
  | .fmoveToFpcr _ => true
  | .fmoveToFpsr _ => true
  | .fmoveToFpiar _ => true
  | .fmoveFromFpcr _ => true
  | .fmoveFromFpsr _ => true
  | .fmoveFromFpiar _ => true
  | .fmovemToCtl _ list => notOneRegister list
  | .fmovemFromCtl _ list => notOneRegister list
  | .fmovemToFp _ _ _ => true
  | .fmovemFromFp _ _ _ => true
  | .fdbcc _ => true
  | .ftrapccW => true
  | .ftrapccL => true
  | .ftrapcc => true
  | .fscc ea => EaField.notMode ea 1 && EaField.isNot ea 7 2 && EaField.isNot ea 7 3 && EaField.isNot ea 7 4
  | .fnop => true
  | .fbccW _ => true
  | .fbccL _ => true
  | .fsave _ => true
  | .frestore _ => true

/-- A displacement record that a full-format extension word can give (30_encoding.md R60 to R62): without indirection
there is no outer displacement; without an index the indirection is the plain one; with an index it is not. -/
def Machine.Displacement.wf (d : Machine.Displacement) : Bool :=
  match d.indexer, d.indirection with
  | _, none => d.outer == 0
  | none, some k => k == .indirect
  | some _, some k => k != .indirect

end Sys2Proof
end

