-- ==== Sys2Proof/Decode.lean ====
section
/-! DEFINITION. The opcode dispatcher's row tables and their scan (30_encoding.md R40, R42, R45 and the opcode map), the
decoder over bytes, and after it the encoder, written from the formats of R41. -/
namespace Sys2Proof
open Sys2Proof.Machine (ErrorKind)

/-- The unsigned field of `n` bits of `w` whose lowest bit is `lo` (00_scope.md section 4). -/
def field (w : Word) (lo n : Nat) : BitVec n := w.extractLsb' lo n

/-- One bit of `w`. -/
def bitOf (w : Word) (i : Nat) : Bool := w.getLsbD i

/-- The effective-address field of an opcode word: mode in bits 5:3, register in bits 2:0. -/
def eaOf (w : Word) : EaField := ⟨field w 3 3, field w 0 3⟩

/-- The destination field of MOVE: register in bits 11:9, mode in bits 8:6 (30_encoding.md R41). -/
def dstOf (w : Word) : EaField := ⟨field w 6 3, field w 9 3⟩

/-- A register field with its D/A bit on top, the lowest bit at `lo`. -/
def regOf (w : Word) (lo : Nat) : RegField := ⟨bitOf w (lo + 3), field w lo 3⟩

/-- A row of the opcode table (30_encoding.md R42): a mask and a value over `w1`, an optional mask and value over
the next word, and the constructor it builds from the two words. -/
structure Row where
  /-- The mask over the opcode word. -/
  mask : Word
  /-- The value the masked opcode word must have. -/
  value : Word
  /-- The second-word guard, mask then value. -/
  guard : Option (Word × Word)
  /-- The row's constructor, from the opcode word and the word after it. -/
  build : Word → Word → Instr

/-- The first-word test of a row. -/
def Row.matchesFirst (r : Row) (w1 : Word) : Bool := w1 &&& r.mask == r.value

/-- The second-word guard of a row; a row without one accepts every word. -/
def Row.guardHolds (r : Row) (w2 : Word) : Bool :=
  match r.guard with
  | none => true
  | some g => w2 &&& g.1 == g.2

/-- The scan of a group: the first row whose two tests hold is taken (30_encoding.md R42, R43). -/
def scan : List Row → Word → Word → Option Instr
  | [], _, _ => none
  | r :: rs, w1, w2 => if r.matchesFirst w1 && r.guardHolds w2 then some (r.build w1 w2) else scan rs w1 w2

/-- Whether the scan peeks at the second word: the first row whose first-word test holds has a guard. -/
def peeks : List Row → Word → Bool
  | [], _ => false
  | r :: rs, w1 => if r.matchesFirst w1 then r.guard.isSome else peeks rs w1

/-- Group 0000, the rows of order 1 to 19. -/
def rows0000_1 : List Row :=
  [ ⟨0xFFFF#16, 0x003C#16, none, fun _ _ => .oriToCcr⟩
  , ⟨0xFFFF#16, 0x007C#16, none, fun _ _ => .oriToSr⟩
  , ⟨0xFFFF#16, 0x023C#16, none, fun _ _ => .andiToCcr⟩
  , ⟨0xFFFF#16, 0x027C#16, none, fun _ _ => .andiToSr⟩
  , ⟨0xFFFF#16, 0x0A3C#16, none, fun _ _ => .eoriToCcr⟩
  , ⟨0xFFFF#16, 0x0A7C#16, none, fun _ _ => .eoriToSr⟩
  , ⟨0xF138#16, 0x0108#16, none, fun w1 _ => .movep (field w1 9 3) (bitOf w1 7) (bitOf w1 6) (field w1 0 3)⟩
  , ⟨0xF1C0#16, 0x0100#16, none, fun w1 _ => .btstDn (field w1 9 3) (eaOf w1)⟩
  , ⟨0xF1C0#16, 0x0140#16, none, fun w1 _ => .bchgDn (field w1 9 3) (eaOf w1)⟩
  , ⟨0xF1C0#16, 0x0180#16, none, fun w1 _ => .bclrDn (field w1 9 3) (eaOf w1)⟩
  , ⟨0xF1C0#16, 0x01C0#16, none, fun w1 _ => .bsetDn (field w1 9 3) (eaOf w1)⟩
  , ⟨0xFFC0#16, 0x0800#16, none, fun w1 _ => .btstImm (eaOf w1)⟩
  , ⟨0xFFC0#16, 0x0840#16, none, fun w1 _ => .bchgImm (eaOf w1)⟩
  , ⟨0xFFC0#16, 0x0880#16, none, fun w1 _ => .bclrImm (eaOf w1)⟩
  , ⟨0xFFC0#16, 0x08C0#16, none, fun w1 _ => .bsetImm (eaOf w1)⟩
  , ⟨0xFFF0#16, 0x06C0#16, none, fun w1 _ => .rtm (regOf w1 0)⟩
  , ⟨0xFFC0#16, 0x06C0#16, none, fun w1 _ => .callm (eaOf w1)⟩
  , ⟨0xF9C0#16, 0x00C0#16, some (0x0800#16, 0x0000#16), fun w1 w2 => .cmp2 (field w1 9 2) (eaOf w1) (regOf w2 12)⟩
  , ⟨0xF9C0#16, 0x00C0#16, some (0x0800#16, 0x0800#16), fun w1 w2 => .chk2 (field w1 9 2) (eaOf w1) (regOf w2 12)⟩ ]

/-- Group 0000, the rows of order 20 to 30. -/
def rows0000_20 : List Row :=
  [ ⟨0xFDFF#16, 0x0CFC#16, none, fun w1 _ => .cas2 (bitOf w1 9)⟩
  , ⟨0xFFC0#16, 0x0AC0#16, none, fun w1 _ => .casB (eaOf w1)⟩
  , ⟨0xFFC0#16, 0x0CC0#16, none, fun w1 _ => .casW (eaOf w1)⟩
  , ⟨0xFFC0#16, 0x0EC0#16, none, fun w1 _ => .casL (eaOf w1)⟩
  , ⟨0xFF00#16, 0x0000#16, none, fun w1 _ => .ori (field w1 6 2) (eaOf w1)⟩
  , ⟨0xFF00#16, 0x0200#16, none, fun w1 _ => .andi (field w1 6 2) (eaOf w1)⟩
  , ⟨0xFF00#16, 0x0400#16, none, fun w1 _ => .subi (field w1 6 2) (eaOf w1)⟩
  , ⟨0xFF00#16, 0x0600#16, none, fun w1 _ => .addi (field w1 6 2) (eaOf w1)⟩
  , ⟨0xFF00#16, 0x0A00#16, none, fun w1 _ => .eori (field w1 6 2) (eaOf w1)⟩
  , ⟨0xFF00#16, 0x0C00#16, none, fun w1 _ => .cmpi (field w1 6 2) (eaOf w1)⟩
  , ⟨0xFF00#16, 0x0E00#16, none, fun w1 _ => .moves (field w1 6 2) (eaOf w1)⟩ ]

/-- Group 0000, in dispatch order. -/
def rows0000 : List Row := rows0000_1 ++ rows0000_20

/-- Group 0001, in dispatch order. -/
def rows0001 : List Row :=
  [ ⟨0xF000#16, 0x1000#16, none, fun w1 _ => .moveB (eaOf w1) (dstOf w1)⟩ ]

/-- Group 0010, in dispatch order. -/
def rows0010 : List Row :=
  [ ⟨0xF1C0#16, 0x2040#16, none, fun w1 _ => .moveaL (field w1 9 3) (eaOf w1)⟩
  , ⟨0xF000#16, 0x2000#16, none, fun w1 _ => .moveL (eaOf w1) (dstOf w1)⟩ ]

/-- Group 0011, in dispatch order. -/
def rows0011 : List Row :=
  [ ⟨0xF1C0#16, 0x3040#16, none, fun w1 _ => .moveaW (field w1 9 3) (eaOf w1)⟩
  , ⟨0xF000#16, 0x3000#16, none, fun w1 _ => .moveW (eaOf w1) (dstOf w1)⟩ ]

/-- Group 0100, the rows of order 1 to 19. -/
def rows0100_1 : List Row :=
  [ ⟨0xFFFF#16, 0x4AFC#16, none, fun _ _ => .illegal⟩
  , ⟨0xFFFF#16, 0x4AFA#16, none, fun _ _ => .bgnd⟩
  , ⟨0xFFFF#16, 0x4E70#16, none, fun _ _ => .reset⟩
  , ⟨0xFFFF#16, 0x4E71#16, none, fun _ _ => .nop⟩
  , ⟨0xFFFF#16, 0x4E72#16, none, fun _ _ => .stop⟩
  , ⟨0xFFFF#16, 0x4E73#16, none, fun _ _ => .rte⟩
  , ⟨0xFFFF#16, 0x4E74#16, none, fun _ _ => .rtd⟩
  , ⟨0xFFFF#16, 0x4E75#16, none, fun _ _ => .rts⟩
  , ⟨0xFFFF#16, 0x4E76#16, none, fun _ _ => .trapv⟩
  , ⟨0xFFFF#16, 0x4E77#16, none, fun _ _ => .rtr⟩
  , ⟨0xFFFF#16, 0x4E7A#16, none, fun _ _ => .movecFrom⟩
  , ⟨0xFFFF#16, 0x4E7B#16, none, fun _ _ => .movecTo⟩
  , ⟨0xFFF0#16, 0x4E40#16, none, fun w1 _ => .trap (field w1 0 4)⟩
  , ⟨0xFFF8#16, 0x4E50#16, none, fun w1 _ => .linkW (field w1 0 3)⟩
  , ⟨0xFFF8#16, 0x4E58#16, none, fun w1 _ => .unlk (field w1 0 3)⟩
  , ⟨0xFFF8#16, 0x4E60#16, none, fun w1 _ => .moveToUsp (field w1 0 3)⟩
  , ⟨0xFFF8#16, 0x4E68#16, none, fun w1 _ => .moveFromUsp (field w1 0 3)⟩
  , ⟨0xFFC0#16, 0x4E80#16, none, fun w1 _ => .jsr (eaOf w1)⟩
  , ⟨0xFFC0#16, 0x4EC0#16, none, fun w1 _ => .jmp (eaOf w1)⟩ ]

/-- Group 0100, the rows of order 20 to 38. -/
def rows0100_20 : List Row :=
  [ ⟨0xFFF8#16, 0x4808#16, none, fun w1 _ => .linkL (field w1 0 3)⟩
  , ⟨0xFFC0#16, 0x4800#16, none, fun w1 _ => .nbcd (eaOf w1)⟩
  , ⟨0xFFF8#16, 0x4840#16, none, fun w1 _ => .swap (field w1 0 3)⟩
  , ⟨0xFFF8#16, 0x4848#16, none, fun w1 _ => .bkpt (field w1 0 3)⟩
  , ⟨0xFFC0#16, 0x4840#16, none, fun w1 _ => .pea (eaOf w1)⟩
  , ⟨0xFFF8#16, 0x4880#16, none, fun w1 _ => .extW (field w1 0 3)⟩
  , ⟨0xFFF8#16, 0x48C0#16, none, fun w1 _ => .extL (field w1 0 3)⟩
  , ⟨0xFFF8#16, 0x49C0#16, none, fun w1 _ => .extbL (field w1 0 3)⟩
  , ⟨0xFF80#16, 0x4880#16, none, fun w1 _ => .movemStore (bitOf w1 6) (eaOf w1)⟩
  , ⟨0xFF80#16, 0x4C80#16, none, fun w1 _ => .movemLoad (bitOf w1 6) (eaOf w1)⟩
  , ⟨0xFFC0#16, 0x40C0#16, none, fun w1 _ => .moveFromSr (eaOf w1)⟩
  , ⟨0xFFC0#16, 0x42C0#16, none, fun w1 _ => .moveFromCcr (eaOf w1)⟩
  , ⟨0xFFC0#16, 0x44C0#16, none, fun w1 _ => .moveToCcr (eaOf w1)⟩
  , ⟨0xFFC0#16, 0x46C0#16, none, fun w1 _ => .moveToSr (eaOf w1)⟩
  , ⟨0xFF00#16, 0x4000#16, none, fun w1 _ => .negx (field w1 6 2) (eaOf w1)⟩
  , ⟨0xFF00#16, 0x4200#16, none, fun w1 _ => .clr (field w1 6 2) (eaOf w1)⟩
  , ⟨0xFF00#16, 0x4400#16, none, fun w1 _ => .neg (field w1 6 2) (eaOf w1)⟩
  , ⟨0xFF00#16, 0x4600#16, none, fun w1 _ => .not (field w1 6 2) (eaOf w1)⟩
  , ⟨0xFFC0#16, 0x4AC0#16, none, fun w1 _ => .tas (eaOf w1)⟩ ]

/-- Group 0100, the rows of order 39 to 48. -/
def rows0100_39 : List Row :=
  [ ⟨0xFF00#16, 0x4A00#16, none, fun w1 _ => .tst (field w1 6 2) (eaOf w1)⟩
  , ⟨0xFFC0#16, 0x4C00#16, some (0x0800#16, 0x0000#16), fun w1 w2 => .muluL (eaOf w1) (field w2 12 3) (bitOf w2 10) (field w2 0 3)⟩
  , ⟨0xFFC0#16, 0x4C00#16, some (0x0800#16, 0x0800#16), fun w1 w2 => .mulsL (eaOf w1) (field w2 12 3) (bitOf w2 10) (field w2 0 3)⟩
  , ⟨0xFFC0#16, 0x4C40#16, some (0x0C00#16, 0x0400#16), fun w1 w2 => .divuL64 (eaOf w1) (field w2 12 3) (field w2 0 3)⟩
  , ⟨0xFFC0#16, 0x4C40#16, some (0x0C00#16, 0x0000#16), fun w1 w2 => .divuL32 (eaOf w1) (field w2 12 3) (field w2 0 3)⟩
  , ⟨0xFFC0#16, 0x4C40#16, some (0x0C00#16, 0x0C00#16), fun w1 w2 => .divsL64 (eaOf w1) (field w2 12 3) (field w2 0 3)⟩
  , ⟨0xFFC0#16, 0x4C40#16, some (0x0C00#16, 0x0800#16), fun w1 w2 => .divsL32 (eaOf w1) (field w2 12 3) (field w2 0 3)⟩
  , ⟨0xF1C0#16, 0x4100#16, none, fun w1 _ => .chkL (field w1 9 3) (eaOf w1)⟩
  , ⟨0xF1C0#16, 0x4180#16, none, fun w1 _ => .chkW (field w1 9 3) (eaOf w1)⟩
  , ⟨0xF1C0#16, 0x41C0#16, none, fun w1 _ => .lea (field w1 9 3) (eaOf w1)⟩ ]

/-- Group 0100, in dispatch order. -/
def rows0100 : List Row := rows0100_1 ++ rows0100_20 ++ rows0100_39

/-- Group 0101, in dispatch order. -/
def rows0101 : List Row :=
  [ ⟨0xF0F8#16, 0x50C8#16, none, fun w1 _ => .dbcc (field w1 8 4) (field w1 0 3)⟩
  , ⟨0xF0FF#16, 0x50FA#16, none, fun w1 _ => .trapccW (field w1 8 4)⟩
  , ⟨0xF0FF#16, 0x50FB#16, none, fun w1 _ => .trapccL (field w1 8 4)⟩
  , ⟨0xF0FF#16, 0x50FC#16, none, fun w1 _ => .trapcc (field w1 8 4)⟩
  , ⟨0xF0C0#16, 0x50C0#16, none, fun w1 _ => .scc (field w1 8 4) (eaOf w1)⟩
  , ⟨0xF100#16, 0x5000#16, none, fun w1 _ => .addq (field w1 9 3) (field w1 6 2) (eaOf w1)⟩
  , ⟨0xF100#16, 0x5100#16, none, fun w1 _ => .subq (field w1 9 3) (field w1 6 2) (eaOf w1)⟩ ]

/-- Group 0110, in dispatch order. -/
def rows0110 : List Row :=
  [ ⟨0xFF00#16, 0x6000#16, none, fun w1 _ => .bra (field w1 0 8)⟩
  , ⟨0xFF00#16, 0x6100#16, none, fun w1 _ => .bsr (field w1 0 8)⟩
  , ⟨0xF000#16, 0x6000#16, none, fun w1 _ => .bcc (field w1 8 4) (field w1 0 8)⟩ ]

/-- Group 0111, in dispatch order. -/
def rows0111 : List Row :=
  [ ⟨0xF100#16, 0x7000#16, none, fun w1 _ => .moveq (field w1 9 3) (field w1 0 8)⟩ ]

/-- Group 1000, in dispatch order. -/
def rows1000 : List Row :=
  [ ⟨0xF1C0#16, 0x80C0#16, none, fun w1 _ => .divuW (field w1 9 3) (eaOf w1)⟩
  , ⟨0xF1C0#16, 0x81C0#16, none, fun w1 _ => .divsW (field w1 9 3) (eaOf w1)⟩
  , ⟨0xF1F0#16, 0x8100#16, none, fun w1 _ => .sbcd (field w1 9 3) (bitOf w1 3) (field w1 0 3)⟩
  , ⟨0xF1F0#16, 0x8140#16, none, fun w1 _ => .pack (field w1 9 3) (bitOf w1 3) (field w1 0 3)⟩
  , ⟨0xF1F0#16, 0x8180#16, none, fun w1 _ => .unpk (field w1 9 3) (bitOf w1 3) (field w1 0 3)⟩
  , ⟨0xF000#16, 0x8000#16, none, fun w1 _ => .or (field w1 9 3) (bitOf w1 8) (field w1 6 2) (eaOf w1)⟩ ]

/-- Group 1001, in dispatch order. -/
def rows1001 : List Row :=
  [ ⟨0xF0C0#16, 0x90C0#16, none, fun w1 _ => .suba (field w1 9 3) (bitOf w1 8) (eaOf w1)⟩
  , ⟨0xF130#16, 0x9100#16, none, fun w1 _ => .subx (field w1 9 3) (field w1 6 2) (bitOf w1 3) (field w1 0 3)⟩
  , ⟨0xF000#16, 0x9000#16, none, fun w1 _ => .sub (field w1 9 3) (bitOf w1 8) (field w1 6 2) (eaOf w1)⟩ ]

/-- Group 1010, line A: no rows (45_arith_logic.md R175). -/
def rows1010 : List Row := []

/-- Group 1011, in dispatch order. -/
def rows1011 : List Row :=
  [ ⟨0xF0C0#16, 0xB0C0#16, none, fun w1 _ => .cmpa (field w1 9 3) (bitOf w1 8) (eaOf w1)⟩
  , ⟨0xF138#16, 0xB108#16, none, fun w1 _ => .cmpm (field w1 9 3) (field w1 6 2) (field w1 0 3)⟩
  , ⟨0xF100#16, 0xB000#16, none, fun w1 _ => .cmp (field w1 9 3) (field w1 6 2) (eaOf w1)⟩
  , ⟨0xF100#16, 0xB100#16, none, fun w1 _ => .eor (field w1 9 3) (field w1 6 2) (eaOf w1)⟩ ]

/-- Group 1100, in dispatch order. -/
def rows1100 : List Row :=
  [ ⟨0xF1C0#16, 0xC0C0#16, none, fun w1 _ => .muluW (field w1 9 3) (eaOf w1)⟩
  , ⟨0xF1C0#16, 0xC1C0#16, none, fun w1 _ => .mulsW (field w1 9 3) (eaOf w1)⟩
  , ⟨0xF1F0#16, 0xC100#16, none, fun w1 _ => .abcd (field w1 9 3) (bitOf w1 3) (field w1 0 3)⟩
  , ⟨0xF1F8#16, 0xC140#16, none, fun w1 _ => .exgDD (field w1 9 3) (field w1 0 3)⟩
  , ⟨0xF1F8#16, 0xC148#16, none, fun w1 _ => .exgAA (field w1 9 3) (field w1 0 3)⟩
  , ⟨0xF1F8#16, 0xC188#16, none, fun w1 _ => .exgDA (field w1 9 3) (field w1 0 3)⟩
  , ⟨0xF000#16, 0xC000#16, none, fun w1 _ => .and (field w1 9 3) (bitOf w1 8) (field w1 6 2) (eaOf w1)⟩ ]

/-- Group 1101, in dispatch order. -/
def rows1101 : List Row :=
  [ ⟨0xF0C0#16, 0xD0C0#16, none, fun w1 _ => .adda (field w1 9 3) (bitOf w1 8) (eaOf w1)⟩
  , ⟨0xF130#16, 0xD100#16, none, fun w1 _ => .addx (field w1 9 3) (field w1 6 2) (bitOf w1 3) (field w1 0 3)⟩
  , ⟨0xF000#16, 0xD000#16, none, fun w1 _ => .add (field w1 9 3) (bitOf w1 8) (field w1 6 2) (eaOf w1)⟩ ]

/-- Group 1110, the rows of order 1 to 19. -/
def rows1110_1 : List Row :=
  [ ⟨0xFFC0#16, 0xE8C0#16, none, fun w1 _ => .bftst (eaOf w1)⟩
  , ⟨0xFFC0#16, 0xE9C0#16, none, fun w1 _ => .bfextu (eaOf w1)⟩
  , ⟨0xFFC0#16, 0xEAC0#16, none, fun w1 _ => .bfchg (eaOf w1)⟩
  , ⟨0xFFC0#16, 0xEBC0#16, none, fun w1 _ => .bfexts (eaOf w1)⟩
  , ⟨0xFFC0#16, 0xECC0#16, none, fun w1 _ => .bfclr (eaOf w1)⟩
  , ⟨0xFFC0#16, 0xEDC0#16, none, fun w1 _ => .bfffo (eaOf w1)⟩
  , ⟨0xFFC0#16, 0xEEC0#16, none, fun w1 _ => .bfset (eaOf w1)⟩
  , ⟨0xFFC0#16, 0xEFC0#16, none, fun w1 _ => .bfins (eaOf w1)⟩
  , ⟨0xFFC0#16, 0xE0C0#16, none, fun w1 _ => .asrEa (eaOf w1)⟩
  , ⟨0xFFC0#16, 0xE1C0#16, none, fun w1 _ => .aslEa (eaOf w1)⟩
  , ⟨0xFFC0#16, 0xE2C0#16, none, fun w1 _ => .lsrEa (eaOf w1)⟩
  , ⟨0xFFC0#16, 0xE3C0#16, none, fun w1 _ => .lslEa (eaOf w1)⟩
  , ⟨0xFFC0#16, 0xE4C0#16, none, fun w1 _ => .roxrEa (eaOf w1)⟩
  , ⟨0xFFC0#16, 0xE5C0#16, none, fun w1 _ => .roxlEa (eaOf w1)⟩
  , ⟨0xFFC0#16, 0xE6C0#16, none, fun w1 _ => .rorEa (eaOf w1)⟩
  , ⟨0xFFC0#16, 0xE7C0#16, none, fun w1 _ => .rolEa (eaOf w1)⟩
  , ⟨0xF118#16, 0xE000#16, none, fun w1 _ => .asrDy (field w1 9 3) (field w1 6 2) (bitOf w1 5) (field w1 0 3)⟩
  , ⟨0xF118#16, 0xE100#16, none, fun w1 _ => .aslDy (field w1 9 3) (field w1 6 2) (bitOf w1 5) (field w1 0 3)⟩
  , ⟨0xF118#16, 0xE008#16, none, fun w1 _ => .lsrDy (field w1 9 3) (field w1 6 2) (bitOf w1 5) (field w1 0 3)⟩ ]

/-- Group 1110, the rows of order 20 to 24. -/
def rows1110_20 : List Row :=
  [ ⟨0xF118#16, 0xE108#16, none, fun w1 _ => .lslDy (field w1 9 3) (field w1 6 2) (bitOf w1 5) (field w1 0 3)⟩
  , ⟨0xF118#16, 0xE010#16, none, fun w1 _ => .roxrDy (field w1 9 3) (field w1 6 2) (bitOf w1 5) (field w1 0 3)⟩
  , ⟨0xF118#16, 0xE110#16, none, fun w1 _ => .roxlDy (field w1 9 3) (field w1 6 2) (bitOf w1 5) (field w1 0 3)⟩
  , ⟨0xF118#16, 0xE018#16, none, fun w1 _ => .rorDy (field w1 9 3) (field w1 6 2) (bitOf w1 5) (field w1 0 3)⟩
  , ⟨0xF118#16, 0xE118#16, none, fun w1 _ => .rolDy (field w1 9 3) (field w1 6 2) (bitOf w1 5) (field w1 0 3)⟩ ]

/-- Group 1110, in dispatch order. -/
def rows1110 : List Row := rows1110_1 ++ rows1110_20

/-- Group 1111, the rows of order 1 to 19. -/
def rows1111_1 : List Row :=
  [ ⟨0xFFFF#16, 0xF200#16, some (0xFC00#16, 0x5C00#16), fun _ w2 => .fmovecr (field w2 7 3) (field w2 0 7)⟩
  , ⟨0xFFC0#16, 0xF200#16, some (0xA07F#16, 0x0000#16), fun w1 w2 => .fmove (eaOf w1) (bitOf w2 14) (field w2 10 3) (field w2 7 3)⟩
  , ⟨0xFFC0#16, 0xF200#16, some (0xA07F#16, 0x0001#16), fun w1 w2 => .fint (eaOf w1) (bitOf w2 14) (field w2 10 3) (field w2 7 3)⟩
  , ⟨0xFFC0#16, 0xF200#16, some (0xA07F#16, 0x0002#16), fun w1 w2 => .fsinh (eaOf w1) (bitOf w2 14) (field w2 10 3) (field w2 7 3)⟩
  , ⟨0xFFC0#16, 0xF200#16, some (0xA07F#16, 0x0003#16), fun w1 w2 => .fintrz (eaOf w1) (bitOf w2 14) (field w2 10 3) (field w2 7 3)⟩
  , ⟨0xFFC0#16, 0xF200#16, some (0xA07F#16, 0x0004#16), fun w1 w2 => .fsqrt (eaOf w1) (bitOf w2 14) (field w2 10 3) (field w2 7 3)⟩
  , ⟨0xFFC0#16, 0xF200#16, some (0xA07F#16, 0x0006#16), fun w1 w2 => .flognp1 (eaOf w1) (bitOf w2 14) (field w2 10 3) (field w2 7 3)⟩
  , ⟨0xFFC0#16, 0xF200#16, some (0xA07F#16, 0x0008#16), fun w1 w2 => .fetoxm1 (eaOf w1) (bitOf w2 14) (field w2 10 3) (field w2 7 3)⟩
  , ⟨0xFFC0#16, 0xF200#16, some (0xA07F#16, 0x0009#16), fun w1 w2 => .ftanh (eaOf w1) (bitOf w2 14) (field w2 10 3) (field w2 7 3)⟩
  , ⟨0xFFC0#16, 0xF200#16, some (0xA07F#16, 0x000A#16), fun w1 w2 => .fatan (eaOf w1) (bitOf w2 14) (field w2 10 3) (field w2 7 3)⟩
  , ⟨0xFFC0#16, 0xF200#16, some (0xA07F#16, 0x000C#16), fun w1 w2 => .fasin (eaOf w1) (bitOf w2 14) (field w2 10 3) (field w2 7 3)⟩
  , ⟨0xFFC0#16, 0xF200#16, some (0xA07F#16, 0x000D#16), fun w1 w2 => .fatanh (eaOf w1) (bitOf w2 14) (field w2 10 3) (field w2 7 3)⟩
  , ⟨0xFFC0#16, 0xF200#16, some (0xA07F#16, 0x000E#16), fun w1 w2 => .fsin (eaOf w1) (bitOf w2 14) (field w2 10 3) (field w2 7 3)⟩
  , ⟨0xFFC0#16, 0xF200#16, some (0xA07F#16, 0x000F#16), fun w1 w2 => .ftan (eaOf w1) (bitOf w2 14) (field w2 10 3) (field w2 7 3)⟩
  , ⟨0xFFC0#16, 0xF200#16, some (0xA07F#16, 0x0010#16), fun w1 w2 => .fetox (eaOf w1) (bitOf w2 14) (field w2 10 3) (field w2 7 3)⟩
  , ⟨0xFFC0#16, 0xF200#16, some (0xA07F#16, 0x0011#16), fun w1 w2 => .ftwotox (eaOf w1) (bitOf w2 14) (field w2 10 3) (field w2 7 3)⟩
  , ⟨0xFFC0#16, 0xF200#16, some (0xA07F#16, 0x0012#16), fun w1 w2 => .ftentox (eaOf w1) (bitOf w2 14) (field w2 10 3) (field w2 7 3)⟩
  , ⟨0xFFC0#16, 0xF200#16, some (0xA07F#16, 0x0014#16), fun w1 w2 => .flogn (eaOf w1) (bitOf w2 14) (field w2 10 3) (field w2 7 3)⟩
  , ⟨0xFFC0#16, 0xF200#16, some (0xA07F#16, 0x0015#16), fun w1 w2 => .flog10 (eaOf w1) (bitOf w2 14) (field w2 10 3) (field w2 7 3)⟩ ]

/-- Group 1111, the rows of order 20 to 38. -/
def rows1111_20 : List Row :=
  [ ⟨0xFFC0#16, 0xF200#16, some (0xA07F#16, 0x0016#16), fun w1 w2 => .flog2 (eaOf w1) (bitOf w2 14) (field w2 10 3) (field w2 7 3)⟩
  , ⟨0xFFC0#16, 0xF200#16, some (0xA07F#16, 0x0018#16), fun w1 w2 => .fabs (eaOf w1) (bitOf w2 14) (field w2 10 3) (field w2 7 3)⟩
  , ⟨0xFFC0#16, 0xF200#16, some (0xA07F#16, 0x0019#16), fun w1 w2 => .fcosh (eaOf w1) (bitOf w2 14) (field w2 10 3) (field w2 7 3)⟩
  , ⟨0xFFC0#16, 0xF200#16, some (0xA07F#16, 0x001A#16), fun w1 w2 => .fneg (eaOf w1) (bitOf w2 14) (field w2 10 3) (field w2 7 3)⟩
  , ⟨0xFFC0#16, 0xF200#16, some (0xA07F#16, 0x001C#16), fun w1 w2 => .facos (eaOf w1) (bitOf w2 14) (field w2 10 3) (field w2 7 3)⟩
  , ⟨0xFFC0#16, 0xF200#16, some (0xA07F#16, 0x001D#16), fun w1 w2 => .fcos (eaOf w1) (bitOf w2 14) (field w2 10 3) (field w2 7 3)⟩
  , ⟨0xFFC0#16, 0xF200#16, some (0xA07F#16, 0x001E#16), fun w1 w2 => .fgetexp (eaOf w1) (bitOf w2 14) (field w2 10 3) (field w2 7 3)⟩
  , ⟨0xFFC0#16, 0xF200#16, some (0xA07F#16, 0x001F#16), fun w1 w2 => .fgetman (eaOf w1) (bitOf w2 14) (field w2 10 3) (field w2 7 3)⟩
  , ⟨0xFFC0#16, 0xF200#16, some (0xA07F#16, 0x0020#16), fun w1 w2 => .fdiv (eaOf w1) (bitOf w2 14) (field w2 10 3) (field w2 7 3)⟩
  , ⟨0xFFC0#16, 0xF200#16, some (0xA07F#16, 0x0021#16), fun w1 w2 => .fmod (eaOf w1) (bitOf w2 14) (field w2 10 3) (field w2 7 3)⟩
  , ⟨0xFFC0#16, 0xF200#16, some (0xA07F#16, 0x0022#16), fun w1 w2 => .fadd (eaOf w1) (bitOf w2 14) (field w2 10 3) (field w2 7 3)⟩
  , ⟨0xFFC0#16, 0xF200#16, some (0xA07F#16, 0x0023#16), fun w1 w2 => .fmul (eaOf w1) (bitOf w2 14) (field w2 10 3) (field w2 7 3)⟩
  , ⟨0xFFC0#16, 0xF200#16, some (0xA07F#16, 0x0024#16), fun w1 w2 => .fsgldiv (eaOf w1) (bitOf w2 14) (field w2 10 3) (field w2 7 3)⟩
  , ⟨0xFFC0#16, 0xF200#16, some (0xA07F#16, 0x0025#16), fun w1 w2 => .frem (eaOf w1) (bitOf w2 14) (field w2 10 3) (field w2 7 3)⟩
  , ⟨0xFFC0#16, 0xF200#16, some (0xA07F#16, 0x0026#16), fun w1 w2 => .fscale (eaOf w1) (bitOf w2 14) (field w2 10 3) (field w2 7 3)⟩
  , ⟨0xFFC0#16, 0xF200#16, some (0xA07F#16, 0x0027#16), fun w1 w2 => .fsglmul (eaOf w1) (bitOf w2 14) (field w2 10 3) (field w2 7 3)⟩
  , ⟨0xFFC0#16, 0xF200#16, some (0xA07F#16, 0x0028#16), fun w1 w2 => .fsub (eaOf w1) (bitOf w2 14) (field w2 10 3) (field w2 7 3)⟩
  , ⟨0xFFC0#16, 0xF200#16, some (0xA078#16, 0x0030#16), fun w1 w2 => .fsincos (eaOf w1) (bitOf w2 14) (field w2 10 3) (field w2 7 3) (field w2 0 3)⟩
  , ⟨0xFFC0#16, 0xF200#16, some (0xA07F#16, 0x0038#16), fun w1 w2 => .fcmp (eaOf w1) (bitOf w2 14) (field w2 10 3) (field w2 7 3)⟩ ]

/-- Group 1111, the rows of order 39 to 57. -/
def rows1111_39 : List Row :=
  [ ⟨0xFFC0#16, 0xF200#16, some (0xA07F#16, 0x003A#16), fun w1 w2 => .ftst (eaOf w1) (bitOf w2 14) (field w2 10 3)⟩
  , ⟨0xFFC0#16, 0xF200#16, some (0xA07F#16, 0x0040#16), fun w1 w2 => .fsmove (eaOf w1) (bitOf w2 14) (field w2 10 3) (field w2 7 3)⟩
  , ⟨0xFFC0#16, 0xF200#16, some (0xA07F#16, 0x0041#16), fun w1 w2 => .fssqrt (eaOf w1) (bitOf w2 14) (field w2 10 3) (field w2 7 3)⟩
  , ⟨0xFFC0#16, 0xF200#16, some (0xA07F#16, 0x0044#16), fun w1 w2 => .fdmove (eaOf w1) (bitOf w2 14) (field w2 10 3) (field w2 7 3)⟩
  , ⟨0xFFC0#16, 0xF200#16, some (0xA07F#16, 0x0045#16), fun w1 w2 => .fdsqrt (eaOf w1) (bitOf w2 14) (field w2 10 3) (field w2 7 3)⟩
  , ⟨0xFFC0#16, 0xF200#16, some (0xA07F#16, 0x0058#16), fun w1 w2 => .fsabs (eaOf w1) (bitOf w2 14) (field w2 10 3) (field w2 7 3)⟩
  , ⟨0xFFC0#16, 0xF200#16, some (0xA07F#16, 0x005A#16), fun w1 w2 => .fsneg (eaOf w1) (bitOf w2 14) (field w2 10 3) (field w2 7 3)⟩
  , ⟨0xFFC0#16, 0xF200#16, some (0xA07F#16, 0x005C#16), fun w1 w2 => .fdabs (eaOf w1) (bitOf w2 14) (field w2 10 3) (field w2 7 3)⟩
  , ⟨0xFFC0#16, 0xF200#16, some (0xA07F#16, 0x005E#16), fun w1 w2 => .fdneg (eaOf w1) (bitOf w2 14) (field w2 10 3) (field w2 7 3)⟩
  , ⟨0xFFC0#16, 0xF200#16, some (0xA07F#16, 0x0060#16), fun w1 w2 => .fsdiv (eaOf w1) (bitOf w2 14) (field w2 10 3) (field w2 7 3)⟩
  , ⟨0xFFC0#16, 0xF200#16, some (0xA07F#16, 0x0062#16), fun w1 w2 => .fsadd (eaOf w1) (bitOf w2 14) (field w2 10 3) (field w2 7 3)⟩
  , ⟨0xFFC0#16, 0xF200#16, some (0xA07F#16, 0x0063#16), fun w1 w2 => .fsmul (eaOf w1) (bitOf w2 14) (field w2 10 3) (field w2 7 3)⟩
  , ⟨0xFFC0#16, 0xF200#16, some (0xA07F#16, 0x0064#16), fun w1 w2 => .fddiv (eaOf w1) (bitOf w2 14) (field w2 10 3) (field w2 7 3)⟩
  , ⟨0xFFC0#16, 0xF200#16, some (0xA07F#16, 0x0066#16), fun w1 w2 => .fdadd (eaOf w1) (bitOf w2 14) (field w2 10 3) (field w2 7 3)⟩
  , ⟨0xFFC0#16, 0xF200#16, some (0xA07F#16, 0x0067#16), fun w1 w2 => .fdmul (eaOf w1) (bitOf w2 14) (field w2 10 3) (field w2 7 3)⟩
  , ⟨0xFFC0#16, 0xF200#16, some (0xA07F#16, 0x0068#16), fun w1 w2 => .fssub (eaOf w1) (bitOf w2 14) (field w2 10 3) (field w2 7 3)⟩
  , ⟨0xFFC0#16, 0xF200#16, some (0xA07F#16, 0x006C#16), fun w1 w2 => .fdsub (eaOf w1) (bitOf w2 14) (field w2 10 3) (field w2 7 3)⟩
  , ⟨0xFFC0#16, 0xF200#16, some (0xE000#16, 0x6000#16), fun w1 w2 => .fmoveToEa (eaOf w1) (field w2 10 3) (field w2 7 3) (field w2 0 7)⟩
  , ⟨0xFFC0#16, 0xF200#16, some (0xFC00#16, 0x9000#16), fun w1 _ => .fmoveToFpcr (eaOf w1)⟩ ]

/-- Group 1111, the rows of order 58 to 76. -/
def rows1111_58 : List Row :=
  [ ⟨0xFFC0#16, 0xF200#16, some (0xFC00#16, 0x8800#16), fun w1 _ => .fmoveToFpsr (eaOf w1)⟩
  , ⟨0xFFC0#16, 0xF200#16, some (0xFC00#16, 0x8400#16), fun w1 _ => .fmoveToFpiar (eaOf w1)⟩
  , ⟨0xFFC0#16, 0xF200#16, some (0xFC00#16, 0xB000#16), fun w1 _ => .fmoveFromFpcr (eaOf w1)⟩
  , ⟨0xFFC0#16, 0xF200#16, some (0xFC00#16, 0xA800#16), fun w1 _ => .fmoveFromFpsr (eaOf w1)⟩
  , ⟨0xFFC0#16, 0xF200#16, some (0xFC00#16, 0xA400#16), fun w1 _ => .fmoveFromFpiar (eaOf w1)⟩
  , ⟨0xFFC0#16, 0xF200#16, some (0xE000#16, 0x8000#16), fun w1 w2 => .fmovemToCtl (eaOf w1) (field w2 10 3)⟩
  , ⟨0xFFC0#16, 0xF200#16, some (0xE000#16, 0xA000#16), fun w1 w2 => .fmovemFromCtl (eaOf w1) (field w2 10 3)⟩
  , ⟨0xFFC0#16, 0xF200#16, some (0xE000#16, 0xC000#16), fun w1 w2 => .fmovemToFp (eaOf w1) (field w2 11 2) (field w2 0 8)⟩
  , ⟨0xFFC0#16, 0xF200#16, some (0xE000#16, 0xE000#16), fun w1 w2 => .fmovemFromFp (eaOf w1) (field w2 11 2) (field w2 0 8)⟩
  , ⟨0xFFF8#16, 0xF248#16, none, fun w1 _ => .fdbcc (field w1 0 3)⟩
  , ⟨0xFFFF#16, 0xF27A#16, none, fun _ _ => .ftrapccW⟩
  , ⟨0xFFFF#16, 0xF27B#16, none, fun _ _ => .ftrapccL⟩
  , ⟨0xFFFF#16, 0xF27C#16, none, fun _ _ => .ftrapcc⟩
  , ⟨0xFFC0#16, 0xF240#16, none, fun w1 _ => .fscc (eaOf w1)⟩
  , ⟨0xFFFF#16, 0xF280#16, some (0xFFFF#16, 0x0000#16), fun _ _ => .fnop⟩
  , ⟨0xFFC0#16, 0xF280#16, none, fun w1 _ => .fbccW (field w1 0 6)⟩
  , ⟨0xFFC0#16, 0xF2C0#16, none, fun w1 _ => .fbccL (field w1 0 6)⟩
  , ⟨0xFFC0#16, 0xF300#16, none, fun w1 _ => .fsave (eaOf w1)⟩
  , ⟨0xFFC0#16, 0xF340#16, none, fun w1 _ => .frestore (eaOf w1)⟩ ]

/-- Group 1111, in dispatch order. -/
def rows1111 : List Row := rows1111_1 ++ rows1111_20 ++ rows1111_39 ++ rows1111_58

/-- The sixteen groups, selected by `w1[15:12]` (30_encoding.md R40). -/
def group (w1 : Word) : List Row :=
  match (field w1 12 4).toNat with
  | 0 => rows0000
  | 1 => rows0001
  | 2 => rows0010
  | 3 => rows0011
  | 4 => rows0100
  | 5 => rows0101
  | 6 => rows0110
  | 7 => rows0111
  | 8 => rows1000
  | 9 => rows1001
  | 10 => rows1010
  | 11 => rows1011
  | 12 => rows1100
  | 13 => rows1101
  | 14 => rows1110
  | _ => rows1111

/-- The dispatcher over an opcode word and the word after it (30_encoding.md R42); `none` where no row is taken. -/
def decodeWords (w1 w2 : Word) : Option Instr := scan (group w1) w1 w2

/-- Whether the dispatcher peeks at the word after `w1` (30_encoding.md R42, decision D15). -/
def peeksSecond (w1 : Word) : Bool := peeks (group w1) w1

/-- The big-endian word at a byte offset of a byte list, if both bytes exist (20_memory.md R26). -/
def wordAt (bytes : List Byte) (off : Nat) : Option Word :=
  match bytes[off]?, bytes[off + 1]? with
  | some hi, some lo => some (hi ++ lo)
  | _, _ => none

/-- The decoder, total on any bytes: the row the dispatcher takes, or the error kind by which it is refused. A missing
opcode word, or a missing word that a guard peeks at, is `outOfSpace` (20_memory.md R27); a word pair that no row takes
is `notImplemented` (30_encoding.md R46). -/
def decode (bytes : List Byte) : Except ErrorKind Instr :=
  match wordAt bytes 0 with
  | none => .error .outOfSpace
  | some w1 =>
    if peeksSecond w1 && (wordAt bytes 2).isNone then .error .outOfSpace
    else
      match decodeWords w1 ((wordAt bytes 2).getD 0) with
      | some i => .ok i
      | none => .error .notImplemented

/-- The two bytes of a word, the most significant first (20_memory.md R26). -/
def bytesOfWord (w : Word) : List Byte := [w.extractLsb' 8 8, w.extractLsb' 0 8]

/-- The bytes of a list of words, in order. -/
def bytesOfWords : List Word → List Byte
  | [] => []
  | w :: ws => bytesOfWord w ++ bytesOfWords ws

/-- The bytes of an instruction whose bits are `w`, numbered as spec/opcode_table.json numbers them: word k is bits
16k+15 .. 16k, and every bit from `nbits` up to the longest instruction is 0. -/
def tableBytes (nbits w : Nat) : List Byte :=
  bytesOfWords ((List.range Config.maxWords).map (fun k => BitVec.ofNat 16 (w % 2 ^ nbits / 2 ^ (16 * k))))

/-- The instruction the decoder reads from an instruction of `nbits` bits `w`, laid out as the buffer holds it. -/
def decodeTableWord (nbits w : Nat) : Option Instr :=
  match decode (tableBytes nbits w) with
  | .ok i => some i
  | .error _ => none

/-! The encoder. -/

/-- The six bits of an effective-address field. -/
def eaBits (e : EaField) : BitVec 6 := e.mode ++ e.reg

/-- The six bits of MOVE's destination field. -/
def dstBits (e : EaField) : BitVec 6 := e.reg ++ e.mode

/-- One bit. -/
def flag (b : Bool) : BitVec 1 := BitVec.ofBool b

/-- The four bits of a register field with its D/A bit. -/
def regBits (r : RegField) : BitVec 4 := flag r.isAddr ++ r.num

/-- The opcode word of an instruction and, for a row with a second-word guard, its second word (30_encoding.md R41 and
each rule's encoding line). Bits the spec ignores are written as 0. -/
def encode : Instr → List Word
  | .oriToCcr => [0b0000000000111100#16]
  | .oriToSr => [0b0000000001111100#16]
  | .andiToCcr => [0b0000001000111100#16]
  | .andiToSr => [0b0000001001111100#16]
  | .eoriToCcr => [0b0000101000111100#16]
  | .eoriToSr => [0b0000101001111100#16]
  | .movep dx toMem long ay => [0b0000#4 ++ dx ++ 0b1#1 ++ flag toMem ++ flag long ++ 0b001#3 ++ ay]
  | .btstDn dn ea => [0b0000#4 ++ dn ++ 0b100#3 ++ eaBits ea]
  | .bchgDn dn ea => [0b0000#4 ++ dn ++ 0b101#3 ++ eaBits ea]
  | .bclrDn dn ea => [0b0000#4 ++ dn ++ 0b110#3 ++ eaBits ea]
  | .bsetDn dn ea => [0b0000#4 ++ dn ++ 0b111#3 ++ eaBits ea]
  | .btstImm ea => [0b0000100000#10 ++ eaBits ea]
  | .bchgImm ea => [0b0000100001#10 ++ eaBits ea]
  | .bclrImm ea => [0b0000100010#10 ++ eaBits ea]
  | .bsetImm ea => [0b0000100011#10 ++ eaBits ea]
  | .rtm rn => [0b000001101100#12 ++ regBits rn]
  | .callm ea => [0b0000011011#10 ++ eaBits ea]
  | .cmp2 ss ea rn => [0b00000#5 ++ ss ++ 0b011#3 ++ eaBits ea,
      regBits rn ++ 0b000000000000#12]
  | .chk2 ss ea rn => [0b00000#5 ++ ss ++ 0b011#3 ++ eaBits ea,
      regBits rn ++ 0b100000000000#12]
  | .cas2 long => [0b000011#6 ++ flag long ++ 0b011111100#9]
  | .casB ea => [0b0000101011#10 ++ eaBits ea]
  | .casW ea => [0b0000110011#10 ++ eaBits ea]
  | .casL ea => [0b0000111011#10 ++ eaBits ea]
  | .ori ss ea => [0b00000000#8 ++ ss ++ eaBits ea]
  | .andi ss ea => [0b00000010#8 ++ ss ++ eaBits ea]
  | .subi ss ea => [0b00000100#8 ++ ss ++ eaBits ea]
  | .addi ss ea => [0b00000110#8 ++ ss ++ eaBits ea]
  | .eori ss ea => [0b00001010#8 ++ ss ++ eaBits ea]
  | .cmpi ss ea => [0b00001100#8 ++ ss ++ eaBits ea]
  | .moves ss ea => [0b00001110#8 ++ ss ++ eaBits ea]
  | .moveB src dst => [0b0001#4 ++ dstBits dst ++ eaBits src]
  | .moveaL an ea => [0b0010#4 ++ an ++ 0b001#3 ++ eaBits ea]
  | .moveL src dst => [0b0010#4 ++ dstBits dst ++ eaBits src]
  | .moveaW an ea => [0b0011#4 ++ an ++ 0b001#3 ++ eaBits ea]
  | .moveW src dst => [0b0011#4 ++ dstBits dst ++ eaBits src]
  | .illegal => [0b0100101011111100#16]
  | .bgnd => [0b0100101011111010#16]
  | .reset => [0b0100111001110000#16]
  | .nop => [0b0100111001110001#16]
  | .stop => [0b0100111001110010#16]
  | .rte => [0b0100111001110011#16]
  | .rtd => [0b0100111001110100#16]
  | .rts => [0b0100111001110101#16]
  | .trapv => [0b0100111001110110#16]
  | .rtr => [0b0100111001110111#16]
  | .movecFrom => [0b0100111001111010#16]
  | .movecTo => [0b0100111001111011#16]
  | .trap vector => [0b010011100100#12 ++ vector]
  | .linkW an => [0b0100111001010#13 ++ an]
  | .unlk an => [0b0100111001011#13 ++ an]
  | .moveToUsp an => [0b0100111001100#13 ++ an]
  | .moveFromUsp an => [0b0100111001101#13 ++ an]
  | .jsr ea => [0b0100111010#10 ++ eaBits ea]
  | .jmp ea => [0b0100111011#10 ++ eaBits ea]
  | .linkL an => [0b0100100000001#13 ++ an]
  | .nbcd ea => [0b0100100000#10 ++ eaBits ea]
  | .swap dn => [0b0100100001000#13 ++ dn]
  | .bkpt vector => [0b0100100001001#13 ++ vector]
  | .pea ea => [0b0100100001#10 ++ eaBits ea]
  | .extW dn => [0b0100100010000#13 ++ dn]
  | .extL dn => [0b0100100011000#13 ++ dn]
  | .extbL dn => [0b0100100111000#13 ++ dn]
  | .movemStore long ea => [0b010010001#9 ++ flag long ++ eaBits ea]
  | .movemLoad long ea => [0b010011001#9 ++ flag long ++ eaBits ea]
  | .moveFromSr ea => [0b0100000011#10 ++ eaBits ea]
  | .moveFromCcr ea => [0b0100001011#10 ++ eaBits ea]
  | .moveToCcr ea => [0b0100010011#10 ++ eaBits ea]
  | .moveToSr ea => [0b0100011011#10 ++ eaBits ea]
  | .negx ss ea => [0b01000000#8 ++ ss ++ eaBits ea]
  | .clr ss ea => [0b01000010#8 ++ ss ++ eaBits ea]
  | .neg ss ea => [0b01000100#8 ++ ss ++ eaBits ea]
  | .not ss ea => [0b01000110#8 ++ ss ++ eaBits ea]
  | .tas ea => [0b0100101011#10 ++ eaBits ea]
  | .tst ss ea => [0b01001010#8 ++ ss ++ eaBits ea]
  | .muluL ea dl is64 dh => [0b0100110000#10 ++ eaBits ea,
      0b0#1 ++ dl ++ 0b0#1 ++ flag is64 ++ 0b0000000#7 ++ dh]
  | .mulsL ea dl is64 dh => [0b0100110000#10 ++ eaBits ea,
      0b0#1 ++ dl ++ 0b1#1 ++ flag is64 ++ 0b0000000#7 ++ dh]
  | .divuL64 ea dq dr => [0b0100110001#10 ++ eaBits ea,
      0b0#1 ++ dq ++ 0b010000000#9 ++ dr]
  | .divuL32 ea dq dr => [0b0100110001#10 ++ eaBits ea,
      0b0#1 ++ dq ++ 0b000000000#9 ++ dr]
  | .divsL64 ea dq dr => [0b0100110001#10 ++ eaBits ea,
      0b0#1 ++ dq ++ 0b110000000#9 ++ dr]
  | .divsL32 ea dq dr => [0b0100110001#10 ++ eaBits ea,
      0b0#1 ++ dq ++ 0b100000000#9 ++ dr]
  | .chkL dn ea => [0b0100#4 ++ dn ++ 0b100#3 ++ eaBits ea]
  | .chkW dn ea => [0b0100#4 ++ dn ++ 0b110#3 ++ eaBits ea]
  | .lea an ea => [0b0100#4 ++ an ++ 0b111#3 ++ eaBits ea]
  | .dbcc cond dn => [0b0101#4 ++ cond ++ 0b11001#5 ++ dn]
  | .trapccW cond => [0b0101#4 ++ cond ++ 0b11111010#8]
  | .trapccL cond => [0b0101#4 ++ cond ++ 0b11111011#8]
  | .trapcc cond => [0b0101#4 ++ cond ++ 0b11111100#8]
  | .scc cond ea => [0b0101#4 ++ cond ++ 0b11#2 ++ eaBits ea]
  | .addq data ss ea => [0b0101#4 ++ data ++ 0b0#1 ++ ss ++ eaBits ea]
  | .subq data ss ea => [0b0101#4 ++ data ++ 0b1#1 ++ ss ++ eaBits ea]
  | .bra disp => [0b01100000#8 ++ disp]
  | .bsr disp => [0b01100001#8 ++ disp]
  | .bcc cond disp => [0b0110#4 ++ cond ++ disp]
  | .moveq dn data => [0b0111#4 ++ dn ++ 0b0#1 ++ data]
  | .divuW dn ea => [0b1000#4 ++ dn ++ 0b011#3 ++ eaBits ea]
  | .divsW dn ea => [0b1000#4 ++ dn ++ 0b111#3 ++ eaBits ea]
  | .sbcd rx mem ry => [0b1000#4 ++ rx ++ 0b10000#5 ++ flag mem ++ ry]
  | .pack rx mem ry => [0b1000#4 ++ rx ++ 0b10100#5 ++ flag mem ++ ry]
  | .unpk rx mem ry => [0b1000#4 ++ rx ++ 0b11000#5 ++ flag mem ++ ry]
  | .or dn toEa ss ea => [0b1000#4 ++ dn ++ flag toEa ++ ss ++ eaBits ea]
  | .suba an long ea => [0b1001#4 ++ an ++ flag long ++ 0b11#2 ++ eaBits ea]
  | .subx rx ss mem ry => [0b1001#4 ++ rx ++ 0b1#1 ++ ss ++ 0b00#2 ++ flag mem ++ ry]
  | .sub dn toEa ss ea => [0b1001#4 ++ dn ++ flag toEa ++ ss ++ eaBits ea]
  | .cmpa an long ea => [0b1011#4 ++ an ++ flag long ++ 0b11#2 ++ eaBits ea]
  | .cmpm ax ss ay => [0b1011#4 ++ ax ++ 0b1#1 ++ ss ++ 0b001#3 ++ ay]
  | .cmp dn ss ea => [0b1011#4 ++ dn ++ 0b0#1 ++ ss ++ eaBits ea]
  | .eor dn ss ea => [0b1011#4 ++ dn ++ 0b1#1 ++ ss ++ eaBits ea]
  | .muluW dn ea => [0b1100#4 ++ dn ++ 0b011#3 ++ eaBits ea]
  | .mulsW dn ea => [0b1100#4 ++ dn ++ 0b111#3 ++ eaBits ea]
  | .abcd rx mem ry => [0b1100#4 ++ rx ++ 0b10000#5 ++ flag mem ++ ry]
  | .exgDD rx ry => [0b1100#4 ++ rx ++ 0b101000#6 ++ ry]
  | .exgAA rx ry => [0b1100#4 ++ rx ++ 0b101001#6 ++ ry]
  | .exgDA rx ry => [0b1100#4 ++ rx ++ 0b110001#6 ++ ry]
  | .and dn toEa ss ea => [0b1100#4 ++ dn ++ flag toEa ++ ss ++ eaBits ea]
  | .adda an long ea => [0b1101#4 ++ an ++ flag long ++ 0b11#2 ++ eaBits ea]
  | .addx rx ss mem ry => [0b1101#4 ++ rx ++ 0b1#1 ++ ss ++ 0b00#2 ++ flag mem ++ ry]
  | .add dn toEa ss ea => [0b1101#4 ++ dn ++ flag toEa ++ ss ++ eaBits ea]
  | .bftst ea => [0b1110100011#10 ++ eaBits ea]
  | .bfextu ea => [0b1110100111#10 ++ eaBits ea]
  | .bfchg ea => [0b1110101011#10 ++ eaBits ea]
  | .bfexts ea => [0b1110101111#10 ++ eaBits ea]
  | .bfclr ea => [0b1110110011#10 ++ eaBits ea]
  | .bfffo ea => [0b1110110111#10 ++ eaBits ea]
  | .bfset ea => [0b1110111011#10 ++ eaBits ea]
  | .bfins ea => [0b1110111111#10 ++ eaBits ea]
  | .asrEa ea => [0b1110000011#10 ++ eaBits ea]
  | .aslEa ea => [0b1110000111#10 ++ eaBits ea]
  | .lsrEa ea => [0b1110001011#10 ++ eaBits ea]
  | .lslEa ea => [0b1110001111#10 ++ eaBits ea]
  | .roxrEa ea => [0b1110010011#10 ++ eaBits ea]
  | .roxlEa ea => [0b1110010111#10 ++ eaBits ea]
  | .rorEa ea => [0b1110011011#10 ++ eaBits ea]
  | .rolEa ea => [0b1110011111#10 ++ eaBits ea]
  | .asrDy cnt ss ir dy => [0b1110#4 ++ cnt ++ 0b0#1 ++ ss ++ flag ir ++ 0b00#2 ++ dy]
  | .aslDy cnt ss ir dy => [0b1110#4 ++ cnt ++ 0b1#1 ++ ss ++ flag ir ++ 0b00#2 ++ dy]
  | .lsrDy cnt ss ir dy => [0b1110#4 ++ cnt ++ 0b0#1 ++ ss ++ flag ir ++ 0b01#2 ++ dy]
  | .lslDy cnt ss ir dy => [0b1110#4 ++ cnt ++ 0b1#1 ++ ss ++ flag ir ++ 0b01#2 ++ dy]
  | .roxrDy cnt ss ir dy => [0b1110#4 ++ cnt ++ 0b0#1 ++ ss ++ flag ir ++ 0b10#2 ++ dy]
  | .roxlDy cnt ss ir dy => [0b1110#4 ++ cnt ++ 0b1#1 ++ ss ++ flag ir ++ 0b10#2 ++ dy]
  | .rorDy cnt ss ir dy => [0b1110#4 ++ cnt ++ 0b0#1 ++ ss ++ flag ir ++ 0b11#2 ++ dy]
  | .rolDy cnt ss ir dy => [0b1110#4 ++ cnt ++ 0b1#1 ++ ss ++ flag ir ++ 0b11#2 ++ dy]
  | .fmovecr dst off => [0b1111001000000000#16,
      0b010111#6 ++ dst ++ off]
  | .fmove ea rm src dst => [0b1111001000#10 ++ eaBits ea,
      0b0#1 ++ flag rm ++ 0b0#1 ++ src ++ dst ++ 0b0000000#7]
  | .fint ea rm src dst => [0b1111001000#10 ++ eaBits ea,
      0b0#1 ++ flag rm ++ 0b0#1 ++ src ++ dst ++ 0b0000001#7]
  | .fsinh ea rm src dst => [0b1111001000#10 ++ eaBits ea,
      0b0#1 ++ flag rm ++ 0b0#1 ++ src ++ dst ++ 0b0000010#7]
  | .fintrz ea rm src dst => [0b1111001000#10 ++ eaBits ea,
      0b0#1 ++ flag rm ++ 0b0#1 ++ src ++ dst ++ 0b0000011#7]
  | .fsqrt ea rm src dst => [0b1111001000#10 ++ eaBits ea,
      0b0#1 ++ flag rm ++ 0b0#1 ++ src ++ dst ++ 0b0000100#7]
  | .flognp1 ea rm src dst => [0b1111001000#10 ++ eaBits ea,
      0b0#1 ++ flag rm ++ 0b0#1 ++ src ++ dst ++ 0b0000110#7]
  | .fetoxm1 ea rm src dst => [0b1111001000#10 ++ eaBits ea,
      0b0#1 ++ flag rm ++ 0b0#1 ++ src ++ dst ++ 0b0001000#7]
  | .ftanh ea rm src dst => [0b1111001000#10 ++ eaBits ea,
      0b0#1 ++ flag rm ++ 0b0#1 ++ src ++ dst ++ 0b0001001#7]
  | .fatan ea rm src dst => [0b1111001000#10 ++ eaBits ea,
      0b0#1 ++ flag rm ++ 0b0#1 ++ src ++ dst ++ 0b0001010#7]
  | .fasin ea rm src dst => [0b1111001000#10 ++ eaBits ea,
      0b0#1 ++ flag rm ++ 0b0#1 ++ src ++ dst ++ 0b0001100#7]
  | .fatanh ea rm src dst => [0b1111001000#10 ++ eaBits ea,
      0b0#1 ++ flag rm ++ 0b0#1 ++ src ++ dst ++ 0b0001101#7]
  | .fsin ea rm src dst => [0b1111001000#10 ++ eaBits ea,
      0b0#1 ++ flag rm ++ 0b0#1 ++ src ++ dst ++ 0b0001110#7]
  | .ftan ea rm src dst => [0b1111001000#10 ++ eaBits ea,
      0b0#1 ++ flag rm ++ 0b0#1 ++ src ++ dst ++ 0b0001111#7]
  | .fetox ea rm src dst => [0b1111001000#10 ++ eaBits ea,
      0b0#1 ++ flag rm ++ 0b0#1 ++ src ++ dst ++ 0b0010000#7]
  | .ftwotox ea rm src dst => [0b1111001000#10 ++ eaBits ea,
      0b0#1 ++ flag rm ++ 0b0#1 ++ src ++ dst ++ 0b0010001#7]
  | .ftentox ea rm src dst => [0b1111001000#10 ++ eaBits ea,
      0b0#1 ++ flag rm ++ 0b0#1 ++ src ++ dst ++ 0b0010010#7]
  | .flogn ea rm src dst => [0b1111001000#10 ++ eaBits ea,
      0b0#1 ++ flag rm ++ 0b0#1 ++ src ++ dst ++ 0b0010100#7]
  | .flog10 ea rm src dst => [0b1111001000#10 ++ eaBits ea,
      0b0#1 ++ flag rm ++ 0b0#1 ++ src ++ dst ++ 0b0010101#7]
  | .flog2 ea rm src dst => [0b1111001000#10 ++ eaBits ea,
      0b0#1 ++ flag rm ++ 0b0#1 ++ src ++ dst ++ 0b0010110#7]
  | .fabs ea rm src dst => [0b1111001000#10 ++ eaBits ea,
      0b0#1 ++ flag rm ++ 0b0#1 ++ src ++ dst ++ 0b0011000#7]
  | .fcosh ea rm src dst => [0b1111001000#10 ++ eaBits ea,
      0b0#1 ++ flag rm ++ 0b0#1 ++ src ++ dst ++ 0b0011001#7]
  | .fneg ea rm src dst => [0b1111001000#10 ++ eaBits ea,
      0b0#1 ++ flag rm ++ 0b0#1 ++ src ++ dst ++ 0b0011010#7]
  | .facos ea rm src dst => [0b1111001000#10 ++ eaBits ea,
      0b0#1 ++ flag rm ++ 0b0#1 ++ src ++ dst ++ 0b0011100#7]
  | .fcos ea rm src dst => [0b1111001000#10 ++ eaBits ea,
      0b0#1 ++ flag rm ++ 0b0#1 ++ src ++ dst ++ 0b0011101#7]
  | .fgetexp ea rm src dst => [0b1111001000#10 ++ eaBits ea,
      0b0#1 ++ flag rm ++ 0b0#1 ++ src ++ dst ++ 0b0011110#7]
  | .fgetman ea rm src dst => [0b1111001000#10 ++ eaBits ea,
      0b0#1 ++ flag rm ++ 0b0#1 ++ src ++ dst ++ 0b0011111#7]
  | .fdiv ea rm src dst => [0b1111001000#10 ++ eaBits ea,
      0b0#1 ++ flag rm ++ 0b0#1 ++ src ++ dst ++ 0b0100000#7]
  | .fmod ea rm src dst => [0b1111001000#10 ++ eaBits ea,
      0b0#1 ++ flag rm ++ 0b0#1 ++ src ++ dst ++ 0b0100001#7]
  | .fadd ea rm src dst => [0b1111001000#10 ++ eaBits ea,
      0b0#1 ++ flag rm ++ 0b0#1 ++ src ++ dst ++ 0b0100010#7]
  | .fmul ea rm src dst => [0b1111001000#10 ++ eaBits ea,
      0b0#1 ++ flag rm ++ 0b0#1 ++ src ++ dst ++ 0b0100011#7]
  | .fsgldiv ea rm src dst => [0b1111001000#10 ++ eaBits ea,
      0b0#1 ++ flag rm ++ 0b0#1 ++ src ++ dst ++ 0b0100100#7]
  | .frem ea rm src dst => [0b1111001000#10 ++ eaBits ea,
      0b0#1 ++ flag rm ++ 0b0#1 ++ src ++ dst ++ 0b0100101#7]
  | .fscale ea rm src dst => [0b1111001000#10 ++ eaBits ea,
      0b0#1 ++ flag rm ++ 0b0#1 ++ src ++ dst ++ 0b0100110#7]
  | .fsglmul ea rm src dst => [0b1111001000#10 ++ eaBits ea,
      0b0#1 ++ flag rm ++ 0b0#1 ++ src ++ dst ++ 0b0100111#7]
  | .fsub ea rm src dst => [0b1111001000#10 ++ eaBits ea,
      0b0#1 ++ flag rm ++ 0b0#1 ++ src ++ dst ++ 0b0101000#7]
  | .fsincos ea rm src fps fpc => [0b1111001000#10 ++ eaBits ea,
      0b0#1 ++ flag rm ++ 0b0#1 ++ src ++ fps ++ 0b0110#4 ++ fpc]
  | .fcmp ea rm src dst => [0b1111001000#10 ++ eaBits ea,
      0b0#1 ++ flag rm ++ 0b0#1 ++ src ++ dst ++ 0b0111000#7]
  | .ftst ea rm src => [0b1111001000#10 ++ eaBits ea,
      0b0#1 ++ flag rm ++ 0b0#1 ++ src ++ 0b0000111010#10]
  | .fsmove ea rm src dst => [0b1111001000#10 ++ eaBits ea,
      0b0#1 ++ flag rm ++ 0b0#1 ++ src ++ dst ++ 0b1000000#7]
  | .fssqrt ea rm src dst => [0b1111001000#10 ++ eaBits ea,
      0b0#1 ++ flag rm ++ 0b0#1 ++ src ++ dst ++ 0b1000001#7]
  | .fdmove ea rm src dst => [0b1111001000#10 ++ eaBits ea,
      0b0#1 ++ flag rm ++ 0b0#1 ++ src ++ dst ++ 0b1000100#7]
  | .fdsqrt ea rm src dst => [0b1111001000#10 ++ eaBits ea,
      0b0#1 ++ flag rm ++ 0b0#1 ++ src ++ dst ++ 0b1000101#7]
  | .fsabs ea rm src dst => [0b1111001000#10 ++ eaBits ea,
      0b0#1 ++ flag rm ++ 0b0#1 ++ src ++ dst ++ 0b1011000#7]
  | .fsneg ea rm src dst => [0b1111001000#10 ++ eaBits ea,
      0b0#1 ++ flag rm ++ 0b0#1 ++ src ++ dst ++ 0b1011010#7]
  | .fdabs ea rm src dst => [0b1111001000#10 ++ eaBits ea,
      0b0#1 ++ flag rm ++ 0b0#1 ++ src ++ dst ++ 0b1011100#7]
  | .fdneg ea rm src dst => [0b1111001000#10 ++ eaBits ea,
      0b0#1 ++ flag rm ++ 0b0#1 ++ src ++ dst ++ 0b1011110#7]
  | .fsdiv ea rm src dst => [0b1111001000#10 ++ eaBits ea,
      0b0#1 ++ flag rm ++ 0b0#1 ++ src ++ dst ++ 0b1100000#7]
  | .fsadd ea rm src dst => [0b1111001000#10 ++ eaBits ea,
      0b0#1 ++ flag rm ++ 0b0#1 ++ src ++ dst ++ 0b1100010#7]
  | .fsmul ea rm src dst => [0b1111001000#10 ++ eaBits ea,
      0b0#1 ++ flag rm ++ 0b0#1 ++ src ++ dst ++ 0b1100011#7]
  | .fddiv ea rm src dst => [0b1111001000#10 ++ eaBits ea,
      0b0#1 ++ flag rm ++ 0b0#1 ++ src ++ dst ++ 0b1100100#7]
  | .fdadd ea rm src dst => [0b1111001000#10 ++ eaBits ea,
      0b0#1 ++ flag rm ++ 0b0#1 ++ src ++ dst ++ 0b1100110#7]
  | .fdmul ea rm src dst => [0b1111001000#10 ++ eaBits ea,
      0b0#1 ++ flag rm ++ 0b0#1 ++ src ++ dst ++ 0b1100111#7]
  | .fssub ea rm src dst => [0b1111001000#10 ++ eaBits ea,
      0b0#1 ++ flag rm ++ 0b0#1 ++ src ++ dst ++ 0b1101000#7]
  | .fdsub ea rm src dst => [0b1111001000#10 ++ eaBits ea,
      0b0#1 ++ flag rm ++ 0b0#1 ++ src ++ dst ++ 0b1101100#7]
  | .fmoveToEa ea fmt fpm k => [0b1111001000#10 ++ eaBits ea,
      0b011#3 ++ fmt ++ fpm ++ k]
  | .fmoveToFpcr ea => [0b1111001000#10 ++ eaBits ea,
      0b1001000000000000#16]
  | .fmoveToFpsr ea => [0b1111001000#10 ++ eaBits ea,
      0b1000100000000000#16]
  | .fmoveToFpiar ea => [0b1111001000#10 ++ eaBits ea,
      0b1000010000000000#16]
  | .fmoveFromFpcr ea => [0b1111001000#10 ++ eaBits ea,
      0b1011000000000000#16]
  | .fmoveFromFpsr ea => [0b1111001000#10 ++ eaBits ea,
      0b1010100000000000#16]
  | .fmoveFromFpiar ea => [0b1111001000#10 ++ eaBits ea,
      0b1010010000000000#16]
  | .fmovemToCtl ea list => [0b1111001000#10 ++ eaBits ea,
      0b100#3 ++ list ++ 0b0000000000#10]
  | .fmovemFromCtl ea list => [0b1111001000#10 ++ eaBits ea,
      0b101#3 ++ list ++ 0b0000000000#10]
  | .fmovemToFp ea mode list => [0b1111001000#10 ++ eaBits ea,
      0b110#3 ++ mode ++ 0b000#3 ++ list]
  | .fmovemFromFp ea mode list => [0b1111001000#10 ++ eaBits ea,
      0b111#3 ++ mode ++ 0b000#3 ++ list]
  | .fdbcc dn => [0b1111001001001#13 ++ dn]
  | .ftrapccW => [0b1111001001111010#16]
  | .ftrapccL => [0b1111001001111011#16]
  | .ftrapcc => [0b1111001001111100#16]
  | .fscc ea => [0b1111001001#10 ++ eaBits ea]
  | .fnop => [0b1111001010000000#16,
      0b0000000000000000#16]
  | .fbccW cond => [0b1111001010#10 ++ cond]
  | .fbccL cond => [0b1111001011#10 ++ cond]
  | .fsave ea => [0b1111001100#10 ++ eaBits ea]
  | .frestore ea => [0b1111001101#10 ++ eaBits ea]

/-! The encoder of extension words (30_encoding.md section 5). -/

/-- The brief extension word of an index and an 8-bit displacement (30_encoding.md R57, R58). -/
def briefExt (x : Machine.Indexer) (d : Byte) : Word := flag x.isAddr ++ x.num ++ 0#1 ++ x.scale ++ 0#1 ++ d

/-- The two words of a 32-bit value, the most significant first (20_memory.md R29). -/
def wordsOfLong (v : Long) : List Word := [v.extractLsb' 16 16, v.extractLsb' 0 16]

/-- The I/IS code of an indirection with a long outer displacement (30_encoding.md R60). The index-suppressed kind is
`indirect`, the others keep their index. -/
def indirectionCode : Option Machine.MemoryIndirection → BitVec 3
  | none => 0b000
  | some .indirect => 0b011
  | some .preIndexed => 0b011
  | some .postIndexed => 0b111

/-- The full-format extension word and the displacement words of a displacement record, each displacement written long
(30_encoding.md R59 to R62). -/
def fullExt (bs : Bool) (d : Machine.Displacement) : List Word :=
  let top : BitVec 8 := match d.indexer with
    | some x => flag x.isAddr ++ x.num ++ 0#1 ++ x.scale ++ 1#1
    | none => 0b00000001#8
  (top ++ flag bs ++ flag d.indexer.isNone ++ 0b11#2 ++ 0#1 ++ indirectionCode d.indirection) ::
    wordsOfLong d.base ++ (if d.indirection.isNone then [] else wordsOfLong d.outer)

end Sys2Proof
end

