-- ==== Sys2Proof/Machine/State.lean ====
section
/-! DEFINITION. The state of the decoder: the cursor of one decode call (10_state.md R5) and the result the call
hands to its caller (00_scope.md R1). Nothing else exists (R5, R8, R10, R11, R12). -/
namespace Sys2Proof.Machine

/-- The input buffer (20_memory.md R24) as (offset, byte) pairs. An offset that is not listed lies outside the buffer
and reads as no value; the offsets listed are `0 .. L-1` in order (`Memory.wf`). -/
abbrev Memory := List Host.Cell

/-- The state of the block: the tuple `(buf, L, pos, err)` of 10_state.md R5, with `L` the number of cells of `buf`,
and the call's result. -/
structure State where
  /-- The input bytes, read-only for the call (R5, 20_memory.md R24). -/
  buf : Memory
  /-- The byte offset of the next word to read (R5, R7). -/
  pos : Nat
  /-- The first error recorded in the call, if any (R5, R6). -/
  err : Option ErrorKind
  /-- The result of the call that ended, if one has (10_state.md R22, 60_exceptions.md R302). The spec calls it the
  return value of a call; it stands in the state because a step answers a state (log entry 2). -/
  result : Option CallResult
deriving DecidableEq, Repr

/-- Faults: none. The spec gives every input a result (70_reset_and_hazards.md R317), and a decode error is a result
(60_exceptions.md R302), so nothing raises a fault. -/
inductive Fault
deriving DecidableEq, Repr

/-- Refusals. -/
inductive Refusal where
  /-- Raised by an arm of `exec` whose instruction has no meaning yet; safe, the model stops. No arm raises it. -/
  | notModelled (mnemonic : String)
deriving DecidableEq, Repr

/-- `L`, the count of input bytes (10_state.md R5). -/
def State.len (s : State) : Nat := s.buf.length

/-- The machine right after reset: the start of a call with no buffer supplied yet (70_reset_and_hazards.md R311).
`pos` = 0 and `err` = `NONE` are the spec's; the empty buffer and the empty result are the model's, log entries 1
and 2 (DESIGN CHOICE, unsafe). -/
def State.reset : State := { buf := [], pos := 0, err := none, result := none }

end Sys2Proof.Machine
end

