-- ==== Sys2Proof/Machine/Ops.lean ====
section
/-! DEFINITION. The named operations: reading the buffer (20_memory.md section 1), the cursor's error
(10_state.md R6), the cursor's reads (20_memory.md section 2), the end of a call (30_encoding.md R44), and the one
shared operation that raises a decode error (60_exceptions.md R299). -/
namespace Sys2Proof.Machine

/-! The buffer. -/

/-- The byte at an offset; `none` outside the buffer (20_memory.md R24). -/
def Memory.byte? (m : Memory) (off : Nat) : Option Byte := List.lookup off m

/-- `MemRead(off, 2)`: the big-endian word at `off`, `none` where it does not fit (20_memory.md R26). -/
def Memory.word? (m : Memory) (off : Nat) : Option Word :=
  match m.byte? off, m.byte? (off + 1) with
  | some hi, some lo => some (hi ++ lo)
  | _, _ => none

/-- The buffer that holds these bytes from offset `n` on. -/
def Memory.ofBytesFrom : Nat → List Byte → Memory
  | _, [] => []
  | n, b :: bs => (n, b) :: Memory.ofBytesFrom (n + 1) bs

/-- The buffer that holds these bytes from offset 0 (20_memory.md R24). -/
def Memory.ofBytes (bytes : List Byte) : Memory := Memory.ofBytesFrom 0 bytes

/-- The bytes of a buffer, in order. -/
def Memory.bytes (m : Memory) : List Byte := m.map (·.2)

/-- The canonical form: the offsets listed are `0 .. L-1` in rising order (20_memory.md R24). -/
def Memory.wf (m : Memory) : Bool := m.map (·.1) == List.range m.length

/-! The cursor's error. -/

/-- `RecordError(K)`: the first error recorded stays (10_state.md R6). -/
def recordError (k : ErrorKind) (s : State) : State :=
  match s.err with
  | none => { s with err := some k }
  | some _ => s

/-! The cursor's reads. Each answers the value read and the state after. -/

/-- `PeekWord(k)`: the word `k` words ahead, not consumed; 0 and a recorded `OutOfSpace` where it does not fit
(20_memory.md R27). -/
def peekWord (k : Nat) (s : State) : Word × State :=
  match s.buf.word? (s.pos + 2 * k) with
  | some w => (w, s)
  | none => (0, recordError .outOfSpace s)

/-- `SkipWords(n)`: the position moves past `n` words, nothing is read (20_memory.md R30). -/
def skipWords (n : Nat) (s : State) : State := { s with pos := s.pos + 2 * n }

/-- `Pull16()`: one word, consumed; the position moves even when the word is missing (20_memory.md R28). -/
def pull16 (s : State) : Word × State :=
  let w := peekWord 0 s
  (w.1, skipWords 1 w.2)

/-- `Pull32()`: two words, the most significant first (20_memory.md R29). -/
def pull32 (s : State) : Long × State :=
  let hi := pull16 s
  let lo := pull16 hi.2
  (hi.1 ++ lo.1, lo.2)

/-- `HasWords(n)`: whether `n` more words are available (20_memory.md R31). No rule of the dispatcher or of a builder
uses it. -/
def hasWords (n : Nat) (s : State) : Bool := s.pos + 2 * n ≤ s.len

/-- The fresh cursor at the start of a call (70_reset_and_hazards.md R311). -/
def freshCursor (s : State) : State := { s with pos := 0, err := none, result := none }

/-! The end of a call. -/

/-- What a step or a meaning answers. -/
abbrev StepResult := Host.Outcome State Fault Refusal

/-- `Result()`: `Err(err)` if an error is recorded, else `Ok` with the final position (30_encoding.md R44). -/
def callResult (ins : Instruction) (s : State) : CallResult :=
  match s.err with
  | some k => .err k
  | none => .ok ⟨s.pos, ins⟩

/-- `emit(op, size, o0, o1, x)`: the builder's instruction, and with it the end of the call (00_scope.md section 4,
30_encoding.md R44). -/
def emit (op : Operation) (size : Nat) (o0 o1 : Option Operand) (x : Option Extra) (s : State) : StepResult :=
  .next { s with result := some (callResult ⟨size, op, o0, o1, x⟩ s) }

/-- `raise DecodeError(K)`: the error is recorded, the builder is abandoned and the call ends with the first error of
the call (60_exceptions.md R299, R301). This is the block's only exceptional event; it saves no state and enters no
handler, and there is no return from it (R305). -/
def raiseError (k : ErrorKind) (s : State) : StepResult :=
  let t := recordError k s
  .next { t with result := some (.err (t.err.getD k)) }

end Sys2Proof.Machine
end

