-- ==== Sys2Proof/Machine/Operands.lean ====
section
/-! DEFINITION. The addressing-mode resolver (30_encoding.md section 4), the extension words of extended addressing
(section 5), the auxiliary field decoders (section 6) and the branch target (R76). A function that reads words answers
its value and the state after. -/
namespace Sys2Proof.Machine

/-! Displacements. -/

/-- A displacement record of a base displacement alone. -/
def plainDisp (d : Long) : Displacement := ⟨d, 0, none, none⟩

/-- `sext_16(Pull16())`: a 16-bit displacement word, sign-extended (10_state.md R14). -/
def pullDisp16 (s : State) : Long × State :=
  let w := pull16 s
  (w.1.signExtend 32, w.2)

/-! Immediates. -/

/-- `ReadImm(size)` (30_encoding.md R56): a byte immediate keeps the low byte of its word; an unsupported size records
`BadSize` and reads no word. -/
def readImm (size : Nat) (s : State) : Operand × State :=
  if size = 1 then
    let w := pull16 s
    (.imm8 (field w.1 0 8), w.2)
  else if size = 2 then
    let w := pull16 s
    (.imm16 w.1, w.2)
  else if size = 4 then
    let v := pull32 s
    (.imm32 v.1, v.2)
  else (.implied, recordError .badSize s)

/-! Extension words. -/

/-- The index an extension word names (30_encoding.md R57). The W/L bit is ignored (R64). -/
def indexerOf (ext : Word) : Indexer := ⟨bitOf ext 15, field ext 12 3, field ext 9 2⟩

/-- The displacement record of a brief extension word (30_encoding.md R58). -/
def briefDisp (ext : Word) : Displacement := ⟨(field ext 0 8).signExtend 32, 0, some (indexerOf ext), none⟩

/-- A displacement of the size a 2-bit code names: 1 null, 2 word, 3 long (30_encoding.md R59, R61). Code 0 reads
nothing. -/
def pullSized (code : BitVec 2) (s : State) : Long × State :=
  if code = 2 then pullDisp16 s
  else if code = 3 then pull32 s
  else (0, s)

/-- The base displacement of a full-format extension word by BD SIZE; code 00 records `Reserved` (30_encoding.md
R59). -/
def pullBase (ext : Word) (s : State) : Long × State :=
  if field ext 4 2 = 0 then (0, recordError .reserved s) else pullSized (field ext 4 2) s

/-- What an I/IS code selects: the indirection and the outer displacement's size code, or `none` where the code is
reserved (30_encoding.md R60). A missing outer displacement has the null code 1. -/
def indirectionOf (is : Bool) (iis : BitVec 3) : Option (Option MemoryIndirection × BitVec 2) :=
  match is, iis.toNat with
  | false, 0 => some (none, 1)
  | false, 1 => some (some .preIndexed, 1)
  | false, 2 => some (some .preIndexed, 2)
  | false, 3 => some (some .preIndexed, 3)
  | false, 5 => some (some .postIndexed, 1)
  | false, 6 => some (some .postIndexed, 2)
  | false, 7 => some (some .postIndexed, 3)
  | true, 0 => some (none, 1)
  | true, 1 => some (some .indirect, 1)
  | true, 2 => some (some .indirect, 2)
  | true, 3 => some (some .indirect, 3)
  | _, _ => none

/-- The indirection and the outer displacement of a full-format extension word; a reserved code records `Reserved` and
reads no word (30_encoding.md R60, R61). -/
def pullOuter (ext : Word) (s : State) : (Option MemoryIndirection × Long) × State :=
  match indirectionOf (bitOf ext 6) (field ext 0 3) with
  | none => ((none, 0), recordError .reserved s)
  | some k =>
    let od := pullSized k.2 s
    ((k.1, od.1), od.2)

/-- The displacement record of a full-format extension word: base displacement, then I/IS, then outer displacement
(30_encoding.md R59 to R63). -/
def fullDisp (ext : Word) (s : State) : Displacement × State :=
  let bd := pullBase ext s
  let od := pullOuter ext bd.2
  (⟨bd.1, od.1.2, if bitOf ext 6 then none else some (indexerOf ext), od.1.1⟩, od.2)

/-- `ExtWord()`: the base-suppress flag and the displacement record of an extended address (30_encoding.md R57). -/
def extWord (s : State) : (Bool × Displacement) × State :=
  let ext := pull16 s
  if bitOf ext.1 8 then
    let d := fullDisp ext.1 ext.2
    ((bitOf ext.1 7, d.1), d.2)
  else ((false, briefDisp ext.1), ext.2)

/-! The addressing-mode resolver. -/

/-- Mode 7 of the resolver, by register number (30_encoding.md R50 to R55). -/
def resolveMode7 (reg : RegNum) (size : Nat) (s : State) : Operand × State :=
  if reg = 0 then
    let w := pull16 s
    (.abs16 w.1, w.2)
  else if reg = 1 then
    let v := pull32 s
    (.abs32 v.1, v.2)
  else if reg = 2 then
    let d := pullDisp16 s
    (.pcDisp s.pos (plainDisp d.1), d.2)
  else if reg = 3 then
    let x := extWord s
    (if x.1.1 then .disp x.1.2 else .pcDisp s.pos x.1.2, x.2)
  else if reg = 4 then readImm size s
  else (.implied, recordError .badRegister s)

/-- `EA(reg, mode, size)`: the addressing-mode resolver (30_encoding.md R47 to R55). It resolves every mode and
register, whatever the instruction (R80). -/
def resolveEa (ea : EaField) (size : Nat) (s : State) : Operand × State :=
  if ea.mode = 0 then (.dr ea.reg, s)
  else if ea.mode = 1 then (.ar ea.reg, s)
  else if ea.mode = 2 then (.arInd ea.reg, s)
  else if ea.mode = 3 then (.arInc ea.reg, s)
  else if ea.mode = 4 then (.arDec ea.reg, s)
  else if ea.mode = 5 then
    let d := pullDisp16 s
    (.arDisp ea.reg (plainDisp d.1), d.2)
  else if ea.mode = 6 then
    let x := extWord s
    (if x.1.1 then .disp x.1.2 else .arDisp ea.reg x.1.2, x.2)
  else resolveMode7 ea.reg size s

/-! Auxiliary field decoders. -/

/-- `Quick(v)`: 8 where the field is 0, else the field (30_encoding.md R65). -/
def quick (v : BitVec 3) : Byte := if v = 0 then 8 else v.setWidth 8

/-- `BF(flag, v)`: a bitfield offset or width; a static 0 is 32 (30_encoding.md R68, 90_conflicts.md C4). -/
def bfData (dyn : Bool) (v : BitVec 5) : BitfieldData :=
  if dyn then .dynamic (v.extractLsb' 0 3)
  else if v = 0 then .static 32
  else .static v.toNat

/-- The bitfield extra of a bitfield extension word (30_encoding.md R41 format `BFEXT`, R68). -/
def bfExtra (w2 : Word) : Extra :=
  .bitfield (bfData (bitOf w2 11) (field w2 6 5)) (bfData (bitOf w2 5) (field w2 0 5))

/-- The byte size of a non-register operand of a format (10_state.md R18). -/
def formatSize : FPFormat → Nat
  | .byte => 1
  | .word => 2
  | .long => 4
  | .single => 4
  | .double => 8
  | .extended => 10
  | .packedStatic _ => 12
  | .packedDynamic _ => 12

/-- `FmtIn(c)`: the format of a source code; `none` for 111, which is reserved (30_encoding.md R69). A packed source
carries an unused k-factor 0. -/
def fmtIn (c : BitVec 3) : Option FPFormat :=
  match c.toNat with
  | 0 => some .long
  | 1 => some .single
  | 2 => some .extended
  | 3 => some (.packedStatic 0)
  | 4 => some .word
  | 5 => some .double
  | 6 => some .byte
  | _ => none

/-- `FmtOut(c, w2)`: the format of a destination code, `k` the low 7 bits of the command word (30_encoding.md
R70). -/
def fmtOut (c : BitVec 3) (k : BitVec 7) : FPFormat :=
  match c.toNat with
  | 0 => .long
  | 1 => .single
  | 2 => .extended
  | 3 => .packedStatic k
  | 4 => .word
  | 5 => .double
  | 6 => .byte
  | _ => .packedDynamic (k.extractLsb' 4 3)

/-- `Reverse16`: bit i moves to bit 15 - i (30_encoding.md R71). -/
def reverse16 (m : Word) : Word := m.reverse

/-- `Reverse8`: bit i moves to bit 7 - i (30_encoding.md R72). -/
def reverse8 (m : Byte) : Byte := m.reverse

/-- The register-list operand of FMOVEM: `mode` is `w2[12:11]`, `list` is `w2[7:0]` (30_encoding.md R72). -/
def fpList (mode : BitVec 2) (list : Byte) : Operand :=
  if mode.getLsbD 0 then .dr (list.extractLsb' 4 3)
  else if mode.getLsbD 1 then .regList ((reverse8 list).setWidth 16)
  else .regList (list.setWidth 16)

/-- `SizeStd(ss)` (30_encoding.md R73). -/
def sizeStd (ss : BitVec 2) : Option Nat :=
  match ss.toNat with
  | 0 => some 1
  | 1 => some 2
  | 2 => some 4
  | _ => none

/-- `SizeMove(ss)` (30_encoding.md R73). -/
def sizeMove (ss : BitVec 2) : Option Nat :=
  match ss.toNat with
  | 1 => some 1
  | 2 => some 4
  | 3 => some 2
  | _ => none

/-- `SizeCas(ss)` (30_encoding.md R73). -/
def sizeCas (ss : BitVec 2) : Option Nat :=
  match ss.toNat with
  | 1 => some 1
  | 2 => some 2
  | 3 => some 4
  | _ => none

/-- `SizeCmp2(ss)` (30_encoding.md R73). -/
def sizeCmp2 (ss : BitVec 2) : Option Nat :=
  match ss.toNat with
  | 0 => some 1
  | 1 => some 2
  | 2 => some 4
  | _ => none

/-- The size a one-bit word/long field names: 4 if set, else 2. -/
def sizeWL (long : Bool) : Nat := if long then 4 else 2

/-- A builder that goes on with the size a size function gives; size code 11 raises `NotImplemented` (30_encoding.md
R73, 60_exceptions.md R300). -/
def withSize (size : Option Nat) (s : State) (k : Nat → StepResult) : StepResult :=
  match size with
  | some n => k n
  | none => raiseError .notImplemented s

/-- The number of registers of an FPU control-register list (49_fpu_control.md R283). -/
def popcount3 (l : BitVec 3) : Nat := (l.getLsbD 0).toNat + (l.getLsbD 1).toNat + (l.getLsbD 2).toNat

/-- `DR(n)` or `AR(n)` by the D/A bit (30_encoding.md R41 format `RN-EXT`). -/
def regOperand (r : RegField) : Operand := if r.isAddr then .ar r.num else .dr r.num

/-- A data register, or the same number with predecrement, by the R/M bit (30_encoding.md R41 format `RR`). -/
def rrOperand (mem : Bool) (n : RegNum) : Operand := if mem then .arDec n else .dr n

/-! Branch targets. -/

/-- The branch-target operand: the PC sampled at `off`, plus a displacement (30_encoding.md R76). -/
def branchTarget (off : Nat) (d : Long) : Operand := .pcDisp off (plainDisp d)

/-- The size and the displacement of BRA, BSR and Bcc by their 8-bit field: 0x00 a word, 0xFF a long word, else the
field itself (44_group6_7.md R171). -/
def branchDisp (disp : Byte) (s : State) : (Nat × Long) × State :=
  if disp = 0x00 then
    let d := pullDisp16 s
    ((2, d.1), d.2)
  else if disp = 0xFF then
    let d := pull32 s
    ((4, d.1), d.2)
  else ((1, disp.signExtend 32), s)

end Sys2Proof.Machine
end

