-- ==== Sys2Proof/Machine/Forms.lean ====
section
/-! DEFINITION. The builders' shapes: one definition for each pseudocode that several rules of 40_group0.md to
49_fpu_control.md share, with the operation tag, the size and the field values as arguments. A builder starts just
after the opcode word, pulls its words in the order its rule lists (30_encoding.md R39) and ends the call. -/
namespace Sys2Proof.Machine

/-! One effective address. -/

/-- One EA operand with size hint `hint`: `emit(op, size, EA, NONE, x)`. -/
def emitEa (op : Operation) (size hint : Nat) (ea : EaField) (x : Option Extra) (s : State) : StepResult :=
  let e := resolveEa ea hint s
  emit op size (some e.1) none x e.2

/-- An EA source and a fixed destination, hint and size equal: `emit(op, size, EA, o, NONE)`. -/
def emitEaTo (op : Operation) (size : Nat) (ea : EaField) (o : Operand) (s : State) : StepResult :=
  let e := resolveEa ea size s
  emit op size (some e.1) (some o) none e.2

/-- A fixed source and an EA destination, hint and size equal: `emit(op, size, o, EA, NONE)`. -/
def emitToEa (op : Operation) (size : Nat) (o : Operand) (ea : EaField) (s : State) : StepResult :=
  let e := resolveEa ea size s
  emit op size (some o) (some e.1) none e.2

/-- One EA operand of format `SZ-EA` (42_group4.md R147 to R150, R152). -/
def emitSizedEa (op : Operation) (ss : BitVec 2) (ea : EaField) (s : State) : StepResult :=
  withSize (sizeStd ss) s fun size => emitEa op size size ea none s

/-- A data register and an EA in the order a direction bit names (45_arith_logic.md R182, R185, R194, R197). -/
def emitDnEa (op : Operation) (dn : RegNum) (toEa : Bool) (ss : BitVec 2) (ea : EaField) (s : State) : StepResult :=
  withSize (sizeStd ss) s fun size =>
    if toEa then emitToEa op size (.dr dn) ea s else emitEaTo op size ea (.dr dn) s

/-! Immediate and bit-number words. -/

/-- An immediate to CCR or SR (40_group0.md R82 to R87). -/
def emitImmToImplied (op : Operation) (size : Nat) (s : State) : StepResult :=
  let imm := readImm size s
  emit op size (some imm.1) (some .implied) none imm.2

/-- An immediate, then an EA (40_group0.md R103 to R108). -/
def emitImmToEa (op : Operation) (ss : BitVec 2) (ea : EaField) (s : State) : StepResult :=
  withSize (sizeStd ss) s fun size =>
    let imm := readImm size s
    let dst := resolveEa ea size imm.2
    emit op size (some imm.1) (some dst.1) none dst.2

/-- The size of a bit operation: long for a data register, byte otherwise (40_group0.md R89, decision D26). -/
def bitOpSize (ea : EaField) : Nat := if ea.mode = 0 then 4 else 1

/-- A bit operation with its bit number in a data register (40_group0.md R89 to R92). -/
def emitBitDn (op : Operation) (dn : RegNum) (ea : EaField) (s : State) : StepResult :=
  emitToEa op (bitOpSize ea) (.dr dn) ea s

/-- A word of which the low byte is kept, then an EA with the given size and hint (40_group0.md R93 to R96, R98). -/
def emitByteToEa (op : Operation) (size hint : Nat) (ea : EaField) (s : State) : StepResult :=
  let w := pull16 s
  let dst := resolveEa ea hint w.2
  emit op size (some (.imm8 (field w.1 0 8))) (some dst.1) none dst.2

/-- A bit operation with a static bit number (40_group0.md R93 to R96). -/
def emitBitImm (op : Operation) (ea : EaField) (s : State) : StepResult :=
  emitByteToEa op (bitOpSize ea) (bitOpSize ea) ea s

/-! Extension words. -/

/-- A register against bounds; the guarded word is consumed first (40_group0.md R99, R100). -/
def emitBounds (op : Operation) (ss : BitVec 2) (ea : EaField) (rn : RegField) (s : State) : StepResult :=
  withSize (sizeCmp2 ss) s fun size => emitEaTo op size ea (regOperand rn) (pull16 s).2

/-- Compare and swap, the size from the code of its row (40_group0.md R102). -/
def emitCas (code : BitVec 2) (ea : EaField) (s : State) : StepResult :=
  withSize (sizeCas code) s fun size =>
    let w2 := pull16 s
    emitToEa .CAS size (.dPair (field w2.1 0 3) (field w2.1 6 3)) ea w2.2

/-- The long multiplication; the guarded word is consumed first (42_group4.md R153, R154). -/
def emitMulL (op : Operation) (ea : EaField) (dl : RegNum) (is64 : Bool) (dh : RegNum) (s : State) : StepResult :=
  emitEaTo op 4 ea (if is64 then .dPair dh dl else .dr dl) (pull16 s).2

/-- The long division with a 64-bit dividend; the guarded word is consumed first (42_group4.md R155, R157). -/
def emitDivL64 (op : Operation) (ea : EaField) (dq dr : RegNum) (s : State) : StepResult :=
  emitEaTo op 4 ea (.dPair dr dq) (pull16 s).2

/-- The long division with a 32-bit dividend: the quotient-only tag where both registers are one, else the tag with a
remainder (42_group4.md R156, R158). The guarded word is consumed first. -/
def emitDivL32 (opQ opR : Operation) (ea : EaField) (dq dr : RegNum) (s : State) : StepResult :=
  if dr = dq then emitEaTo opQ 4 ea (.dr dq) (pull16 s).2
  else emitEaTo opR 4 ea (.dPair dr dq) (pull16 s).2

/-! MOVE. -/

/-- MOVE: the source's words, then the destination's (41_move.md R112). -/
def emitMove (code : BitVec 2) (src dst : EaField) (s : State) : StepResult :=
  withSize (sizeMove code) s fun size =>
    let a := resolveEa src size s
    let b := resolveEa dst size a.2
    emit .MOVE size (some a.1) (some b.1) none b.2

/-- MOVEA (41_move.md R111). -/
def emitMovea (code : BitVec 2) (an : RegNum) (ea : EaField) (s : State) : StepResult :=
  withSize (sizeMove code) s fun size => emitEaTo .MOVEA size ea (.ar an) s

/-! Quick constants, branches, register pairs, shifts. -/

/-- A quick constant and an EA (43_group5.md R168, R169). -/
def emitQuick (op : Operation) (data : BitVec 3) (ss : BitVec 2) (ea : EaField) (s : State) : StepResult :=
  withSize (sizeStd ss) s fun size => emitToEa op size (.imm8 (quick data)) ea s

/-- A branch with an 8-, 16- or 32-bit displacement (44_group6_7.md R171 to R173). -/
def emitBranch (op : Operation) (disp : Byte) (x : Option Extra) (s : State) : StepResult :=
  let d := branchDisp disp s
  emit op d.1.1 (some (branchTarget 2 d.1.2)) none x d.2

/-- Two registers or two predecremented addresses, source first (45_arith_logic.md R179, R192, R184, R196). -/
def emitPair (op : Operation) (size : Nat) (rx : RegNum) (mem : Bool) (ry : RegNum) (s : State) : StepResult :=
  emit op size (some (rrOperand mem ry)) (some (rrOperand mem rx)) none s

/-- The pair form with a size field (45_arith_logic.md R184, R196). -/
def emitSizedPair (op : Operation) (rx : RegNum) (ss : BitVec 2) (mem : Bool) (ry : RegNum) (s : State) :
    StepResult :=
  withSize (sizeStd ss) s fun size => emitPair op size rx mem ry s

/-- The pair form with an adjustment word (45_arith_logic.md R180, R181). -/
def emitAdjust (op : Operation) (rx : RegNum) (mem : Bool) (ry : RegNum) (s : State) : StepResult :=
  let adj := pull16 s
  emit op 0 (some (rrOperand mem ry)) (some (rrOperand mem rx)) (some (.packAdjust adj.1)) adj.2

/-- A register shift or rotate: the count is a register or a quick constant (46_group_e.md R215 to R222). -/
def emitShift (op : Operation) (cnt : BitVec 3) (ss : BitVec 2) (ir : Bool) (dy : RegNum) (s : State) : StepResult :=
  withSize (sizeStd ss) s fun size =>
    emit op size (some (if ir then .dr cnt else .imm8 (quick cnt))) (some (.dr dy)) none s

/-! Bitfields. -/

/-- A bitfield instruction without a register (46_group_e.md R199, R201, R203, R205). -/
def emitBf (op : Operation) (ea : EaField) (s : State) : StepResult :=
  let w2 := pull16 s
  let e := resolveEa ea 0 w2.2
  emit op 0 (some e.1) none (some (bfExtra w2.1)) e.2

/-- A bitfield instruction with a destination register (46_group_e.md R200, R202, R204). -/
def emitBfToDn (op : Operation) (ea : EaField) (s : State) : StepResult :=
  let w2 := pull16 s
  let e := resolveEa ea 0 w2.2
  emit op 0 (some e.1) (some (.dr (field w2.1 12 3))) (some (bfExtra w2.1)) e.2

/-! The FPU. The command word of these rows is guarded: its fields are the constructor's, and the word is consumed
here (20_memory.md R30). -/

/-- A general operation with destination slot `dst` (47_fpu_ops.md R226 and the rules after it; 48_fpu_ops2.md). -/
def emitFpGeneral (op : Operation) (ea : EaField) (rm : Bool) (src : BitVec 3) (dst : Option Operand) (s : State) :
    StepResult :=
  let t := (pull16 s).2
  if rm then
    match fmtIn src with
    | none => raiseError .reserved t
    | some f =>
      let e := resolveEa ea (formatSize f) t
      emit op (formatSize f) (some e.1) dst (some (.fpFormat f)) e.2
  else emit op 10 (some (.fr src)) dst none t

/-- FMOVE to one FPU control register (49_fpu_control.md R281). -/
def emitToCtl (list : BitVec 3) (ea : EaField) (s : State) : StepResult :=
  emitEaTo .FMOVE 4 ea (.controlReg (list.setWidth 12)) (pull16 s).2

/-- FMOVE from one FPU control register (49_fpu_control.md R282). -/
def emitFromCtl (list : BitVec 3) (ea : EaField) (s : State) : StepResult :=
  emitToEa .FMOVE 4 (.controlReg (list.setWidth 12)) ea (pull16 s).2

/-- The condition extra of an FPU condition word, its low 6 bits (49_fpu_control.md R287 to R291). -/
def fpCondExtra (w2 : Word) : Extra := .fpCondCode (fcondOf (field w2 0 6))

end Sys2Proof.Machine
end

