-- ==== Sys2Proof/Machine/ArithLogic.lean ====
section
/-! DEFINITION. The meanings of the instruction rows: the builders of groups 1000 to 1101 (45_arith_logic.md), in
dispatch order. -/
namespace Sys2Proof.Machine

/-- R177, `DIVU.W`: unsigned divide word. -/
def execDivuW (dn : RegNum) (ea : EaField) (s : State) : StepResult := emitEaTo .DIVU 2 ea (.dr dn) s

/-- R178, `DIVS.W`: signed divide word. -/
def execDivsW (dn : RegNum) (ea : EaField) (s : State) : StepResult := emitEaTo .DIVS 2 ea (.dr dn) s

/-- R179, `SBCD`: subtract decimal with extend. -/
def execSbcd (rx : RegNum) (mem : Bool) (ry : RegNum) (s : State) : StepResult := emitPair .SBCD 1 rx mem ry s

/-- R180, `PACK`: pack BCD. -/
def execPack (rx : RegNum) (mem : Bool) (ry : RegNum) (s : State) : StepResult := emitAdjust .PACK rx mem ry s

/-- R181, `UNPK`: unpack BCD. -/
def execUnpk (rx : RegNum) (mem : Bool) (ry : RegNum) (s : State) : StepResult := emitAdjust .UNPK rx mem ry s

/-- R182, `OR`: inclusive OR. -/
def execOr (dn : RegNum) (toEa : Bool) (ss : BitVec 2) (ea : EaField) (s : State) : StepResult :=
  emitDnEa .OR dn toEa ss ea s

/-- R183, `SUBA`: subtract address. -/
def execSuba (an : RegNum) (long : Bool) (ea : EaField) (s : State) : StepResult :=
  emitEaTo .SUBA (sizeWL long) ea (.ar an) s

/-- R184, `SUBX`: subtract with extend. -/
def execSubx (rx : RegNum) (ss : BitVec 2) (mem : Bool) (ry : RegNum) (s : State) : StepResult :=
  emitSizedPair .SUBX rx ss mem ry s

/-- R185, `SUB`: subtract. -/
def execSub (dn : RegNum) (toEa : Bool) (ss : BitVec 2) (ea : EaField) (s : State) : StepResult :=
  emitDnEa .SUB dn toEa ss ea s

/-- R186, `CMPA`: compare address. -/
def execCmpa (an : RegNum) (long : Bool) (ea : EaField) (s : State) : StepResult :=
  emitEaTo .CMPA (sizeWL long) ea (.ar an) s

/-- R187, `CMPM`: compare memory. -/
def execCmpm (ax : RegNum) (ss : BitVec 2) (ay : RegNum) (s : State) : StepResult :=
  withSize (sizeStd ss) s fun size =>
    emit .CMPM size (some (.arInc ay)) (some (.arInc ax)) none s

/-- R188, `CMP`: compare. -/
def execCmp (dn : RegNum) (ss : BitVec 2) (ea : EaField) (s : State) : StepResult :=
  withSize (sizeStd ss) s fun size => emitEaTo .CMP size ea (.dr dn) s

/-- R189, `EOR`: exclusive OR. -/
def execEor (dn : RegNum) (ss : BitVec 2) (ea : EaField) (s : State) : StepResult :=
  withSize (sizeStd ss) s fun size => emitToEa .EOR size (.dr dn) ea s

/-- R190, `MULU.W`: unsigned multiply word. -/
def execMuluW (dn : RegNum) (ea : EaField) (s : State) : StepResult := emitEaTo .MULU 2 ea (.dr dn) s

/-- R191, `MULS.W`: signed multiply word. -/
def execMulsW (dn : RegNum) (ea : EaField) (s : State) : StepResult := emitEaTo .MULS 2 ea (.dr dn) s

/-- R192, `ABCD`: add decimal with extend. -/
def execAbcd (rx : RegNum) (mem : Bool) (ry : RegNum) (s : State) : StepResult := emitPair .ABCD 1 rx mem ry s

/-- R193, `EXG Dx,Dy`: exchange registers. -/
def execExgDD (rx ry : RegNum) (s : State) : StepResult := emit .EXG 4 (some (.dr rx)) (some (.dr ry)) none s

/-- R193, `EXG Ax,Ay`: exchange registers. -/
def execExgAA (rx ry : RegNum) (s : State) : StepResult := emit .EXG 4 (some (.ar rx)) (some (.ar ry)) none s

/-- R193, `EXG Dx,Ay`: exchange registers. -/
def execExgDA (rx ry : RegNum) (s : State) : StepResult := emit .EXG 4 (some (.dr rx)) (some (.ar ry)) none s

/-- R194, `AND`: logical AND. -/
def execAnd (dn : RegNum) (toEa : Bool) (ss : BitVec 2) (ea : EaField) (s : State) : StepResult :=
  emitDnEa .AND dn toEa ss ea s

/-- R195, `ADDA`: add address. -/
def execAdda (an : RegNum) (long : Bool) (ea : EaField) (s : State) : StepResult :=
  emitEaTo .ADDA (sizeWL long) ea (.ar an) s

/-- R196, `ADDX`: add with extend. -/
def execAddx (rx : RegNum) (ss : BitVec 2) (mem : Bool) (ry : RegNum) (s : State) : StepResult :=
  emitSizedPair .ADDX rx ss mem ry s

/-- R197, `ADD`: add. -/
def execAdd (dn : RegNum) (toEa : Bool) (ss : BitVec 2) (ea : EaField) (s : State) : StepResult :=
  emitDnEa .ADD dn toEa ss ea s

end Sys2Proof.Machine
end

