-- ==== Sys2Proof/Machine/Branch.lean ====
section
/-! DEFINITION. The meanings of the instruction rows: the builders of groups 0110 and 0111 (44_group6_7.md), in
dispatch order. -/
namespace Sys2Proof.Machine

/-- R171, `BRA`: branch always. -/
def execBra (disp : Byte) (s : State) : StepResult := emitBranch .BRA disp none s

/-- R172, `BSR`: branch to subroutine. -/
def execBsr (disp : Byte) (s : State) : StepResult := emitBranch .BSR disp none s

/-- R173, `Bcc`: branch conditionally. -/
def execBcc (cond : BitVec 4) (disp : Byte) (s : State) : StepResult :=
  emitBranch .BCC disp (some (.condCode (condOf cond))) s

/-- R174, `MOVEQ`: move quick. The byte is output unsigned (90_conflicts.md C6). -/
def execMoveq (dn : RegNum) (data : Byte) (s : State) : StepResult :=
  emit .MOVEQ 4 (some (.imm8 data)) (some (.dr dn)) none s

end Sys2Proof.Machine
end

