-- ==== Sys2Proof/Machine/FpuControl.lean ====
section
/-! DEFINITION. The meanings of the instruction rows: the builders of the FPU moves, conditions and state frames
(49_fpu_control.md), in dispatch order. -/
namespace Sys2Proof.Machine

/-- R280, `FMOVE FPm,<ea>`: FMOVE to memory or data register. For a format other than packed the k-factor field is
ignored. -/
def execFmoveToEa (ea : EaField) (fmt : BitVec 3) (fpm : RegNum) (k : BitVec 7) (s : State) : StepResult :=
  let t := (pull16 s).2
  let f := fmtOut fmt k
  let dst := resolveEa ea (formatSize f) t
  emit .FMOVE (formatSize f) (some (.fr fpm)) (some dst.1) (some (.fpFormat f)) dst.2

/-- R281, `FMOVE <ea>,FPCR`: FMOVE to one FPU control register. -/
def execFmoveToFpcr (ea : EaField) (s : State) : StepResult := emitToCtl 4 ea s

/-- R281, `FMOVE <ea>,FPSR`: FMOVE to one FPU control register. -/
def execFmoveToFpsr (ea : EaField) (s : State) : StepResult := emitToCtl 2 ea s

/-- R281, `FMOVE <ea>,FPIAR`: FMOVE to one FPU control register. -/
def execFmoveToFpiar (ea : EaField) (s : State) : StepResult := emitToCtl 1 ea s

/-- R282, `FMOVE FPCR,<ea>`: FMOVE from one FPU control register. -/
def execFmoveFromFpcr (ea : EaField) (s : State) : StepResult := emitFromCtl 4 ea s

/-- R282, `FMOVE FPSR,<ea>`: FMOVE from one FPU control register. -/
def execFmoveFromFpsr (ea : EaField) (s : State) : StepResult := emitFromCtl 2 ea s

/-- R282, `FMOVE FPIAR,<ea>`: FMOVE from one FPU control register. -/
def execFmoveFromFpiar (ea : EaField) (s : State) : StepResult := emitFromCtl 1 ea s

/-- R283, `FMOVEM <ea>,ctl`: FMOVEM to several FPU control registers. An empty list raises `Reserved`; an immediate
source has hint 8 or 12 and gives `BadSize`. -/
def execFmovemToCtl (ea : EaField) (list : BitVec 3) (s : State) : StepResult :=
  let t := (pull16 s).2
  if list = 0 then raiseError .reserved t
  else
    let src := resolveEa ea (4 * popcount3 list) t
    emit .FMOVEM 4 (some src.1) (some (.controlReg (list.setWidth 12))) none src.2

/-- R284, `FMOVEM ctl,<ea>`: FMOVEM from several FPU control registers. An empty list raises `Reserved`; the hint is
8 or 12, so an immediate destination gives `BadSize` (log entry 6). -/
def execFmovemFromCtl (ea : EaField) (list : BitVec 3) (s : State) : StepResult :=
  let t := (pull16 s).2
  if list = 0 then raiseError .reserved t
  else
    let dst := resolveEa ea (4 * popcount3 list) t
    emit .FMOVEM 4 (some (.controlReg (list.setWidth 12))) (some dst.1) none dst.2

/-- R285, `FMOVEM <ea>,FPlist`: FMOVEM memory to FP data registers. -/
def execFmovemToFp (ea : EaField) (mode : BitVec 2) (list : Byte) (s : State) : StepResult :=
  emitEaTo .FMOVEM 10 ea (fpList mode list) (pull16 s).2

/-- R286, `FMOVEM FPlist,<ea>`: FMOVEM FP data registers to memory. The hint is 10, so an immediate destination
gives `BadSize` (log entry 6). -/
def execFmovemFromFp (ea : EaField) (mode : BitVec 2) (list : Byte) (s : State) : StepResult :=
  emitToEa .FMOVEM 10 (fpList mode list) ea (pull16 s).2

/-- R287, `FDBcc`: FPU test condition, decrement and branch. The PC is sampled at the displacement word, offset 4.
-/
def execFdbcc (dn : RegNum) (s : State) : StepResult :=
  let w2 := pull16 s
  let d := pullDisp16 w2.2
  emit .FDBCC 2 (some (.dr dn)) (some (branchTarget 4 d.1)) (some (fpCondExtra w2.1)) d.2

/-- R288, `FTRAPcc.W`: FPU trap on condition. -/
def execFtrapccW (s : State) : StepResult :=
  let w2 := pull16 s
  let v := pull16 w2.2
  emit .FTRAPCC 2 (some (.imm16 v.1)) none (some (fpCondExtra w2.1)) v.2

/-- R289, `FTRAPcc.L`: FPU trap on condition. -/
def execFtrapccL (s : State) : StepResult :=
  let w2 := pull16 s
  let v := pull32 w2.2
  emit .FTRAPCC 4 (some (.imm32 v.1)) none (some (fpCondExtra w2.1)) v.2

/-- R290, `FTRAPcc`: FPU trap on condition. -/
def execFtrapcc (s : State) : StepResult :=
  let w2 := pull16 s
  emit .FTRAPCC 0 none none (some (fpCondExtra w2.1)) w2.2

/-- R291, `FScc`: FPU set according to condition. -/
def execFscc (ea : EaField) (s : State) : StepResult :=
  let w2 := pull16 s
  emitEa .FSCC 1 1 ea (some (fpCondExtra w2.1)) w2.2

/-- R292, `FNOP`: FPU no operation. The zero word the guard checked is skipped. -/
def execFnop (s : State) : StepResult := emit .FNOP 0 none none none (skipWords 1 s)

/-- R293, `FBcc.W`: FPU branch conditionally. -/
def execFbccW (cond : BitVec 6) (s : State) : StepResult :=
  let d := pullDisp16 s
  emit .FBCC 2 (some (branchTarget 2 d.1)) none (some (.fpCondCode (fcondOf cond))) d.2

/-- R294, `FBcc.L`: FPU branch conditionally. -/
def execFbccL (cond : BitVec 6) (s : State) : StepResult :=
  let d := pull32 s
  emit .FBCC 4 (some (branchTarget 2 d.1)) none (some (.fpCondCode (fcondOf cond))) d.2

/-- R295, `FSAVE`: save internal FPU state. -/
def execFsave (ea : EaField) (s : State) : StepResult := emitEa .FSAVE 0 0 ea none s

/-- R296, `FRESTORE`: restore internal FPU state. -/
def execFrestore (ea : EaField) (s : State) : StepResult := emitEa .FRESTORE 0 0 ea none s

end Sys2Proof.Machine
end

