-- ==== Sys2Proof/Machine/FpuOps.lean ====
section
/-! DEFINITION. The meanings of the instruction rows: the builders of FMOVECR and of the FPU general operations 0x00
to 0x1F (47_fpu_ops.md), in dispatch order. -/
namespace Sys2Proof.Machine

/-- R225, `FMOVECR`: move constant ROM. The ROM offset is output raw; the guarded word is consumed. -/
def execFmovecr (dst : RegNum) (off : BitVec 7) (s : State) : StepResult :=
  emit .FMOVECR 10 (some (.imm8 (off.setWidth 8))) (some (.fr dst)) none (pull16 s).2

/-- R226, `FMOVE`: move. -/
def execFmove (ea : EaField) (rm : Bool) (src dst : RegNum) (s : State) : StepResult :=
  emitFpGeneral .FMOVE ea rm src (some (.fr dst)) s

/-- R227, `FINT`: integer part. -/
def execFint (ea : EaField) (rm : Bool) (src dst : RegNum) (s : State) : StepResult :=
  emitFpGeneral .FINT ea rm src (some (.fr dst)) s

/-- R228, `FSINH`: hyperbolic sine. -/
def execFsinh (ea : EaField) (rm : Bool) (src dst : RegNum) (s : State) : StepResult :=
  emitFpGeneral .FSINH ea rm src (some (.fr dst)) s

/-- R229, `FINTRZ`: integer part, round to zero. -/
def execFintrz (ea : EaField) (rm : Bool) (src dst : RegNum) (s : State) : StepResult :=
  emitFpGeneral .FINTRZ ea rm src (some (.fr dst)) s

/-- R230, `FSQRT`: square root. -/
def execFsqrt (ea : EaField) (rm : Bool) (src dst : RegNum) (s : State) : StepResult :=
  emitFpGeneral .FSQRT ea rm src (some (.fr dst)) s

/-- R231, `FLOGNP1`: natural logarithm of (x + 1). -/
def execFlognp1 (ea : EaField) (rm : Bool) (src dst : RegNum) (s : State) : StepResult :=
  emitFpGeneral .FLOGNP1 ea rm src (some (.fr dst)) s

/-- R232, `FETOXM1`: e to the x, minus 1. -/
def execFetoxm1 (ea : EaField) (rm : Bool) (src dst : RegNum) (s : State) : StepResult :=
  emitFpGeneral .FETOXM1 ea rm src (some (.fr dst)) s

/-- R233, `FTANH`: hyperbolic tangent. -/
def execFtanh (ea : EaField) (rm : Bool) (src dst : RegNum) (s : State) : StepResult :=
  emitFpGeneral .FTANH ea rm src (some (.fr dst)) s

/-- R234, `FATAN`: arc tangent. -/
def execFatan (ea : EaField) (rm : Bool) (src dst : RegNum) (s : State) : StepResult :=
  emitFpGeneral .FATAN ea rm src (some (.fr dst)) s

/-- R235, `FASIN`: arc sine. -/
def execFasin (ea : EaField) (rm : Bool) (src dst : RegNum) (s : State) : StepResult :=
  emitFpGeneral .FASIN ea rm src (some (.fr dst)) s

/-- R236, `FATANH`: hyperbolic arc tangent. -/
def execFatanh (ea : EaField) (rm : Bool) (src dst : RegNum) (s : State) : StepResult :=
  emitFpGeneral .FATANH ea rm src (some (.fr dst)) s

/-- R237, `FSIN`: sine. -/
def execFsin (ea : EaField) (rm : Bool) (src dst : RegNum) (s : State) : StepResult :=
  emitFpGeneral .FSIN ea rm src (some (.fr dst)) s

/-- R238, `FTAN`: tangent. -/
def execFtan (ea : EaField) (rm : Bool) (src dst : RegNum) (s : State) : StepResult :=
  emitFpGeneral .FTAN ea rm src (some (.fr dst)) s

/-- R239, `FETOX`: e to the x. -/
def execFetox (ea : EaField) (rm : Bool) (src dst : RegNum) (s : State) : StepResult :=
  emitFpGeneral .FETOX ea rm src (some (.fr dst)) s

/-- R240, `FTWOTOX`: 2 to the x. -/
def execFtwotox (ea : EaField) (rm : Bool) (src dst : RegNum) (s : State) : StepResult :=
  emitFpGeneral .FTWOTOX ea rm src (some (.fr dst)) s

/-- R241, `FTENTOX`: 10 to the x. -/
def execFtentox (ea : EaField) (rm : Bool) (src dst : RegNum) (s : State) : StepResult :=
  emitFpGeneral .FTENTOX ea rm src (some (.fr dst)) s

/-- R242, `FLOGN`: natural logarithm. -/
def execFlogn (ea : EaField) (rm : Bool) (src dst : RegNum) (s : State) : StepResult :=
  emitFpGeneral .FLOGN ea rm src (some (.fr dst)) s

/-- R243, `FLOG10`: base-10 logarithm. -/
def execFlog10 (ea : EaField) (rm : Bool) (src dst : RegNum) (s : State) : StepResult :=
  emitFpGeneral .FLOG10 ea rm src (some (.fr dst)) s

/-- R244, `FLOG2`: base-2 logarithm. -/
def execFlog2 (ea : EaField) (rm : Bool) (src dst : RegNum) (s : State) : StepResult :=
  emitFpGeneral .FLOG2 ea rm src (some (.fr dst)) s

/-- R245, `FABS`: absolute value. -/
def execFabs (ea : EaField) (rm : Bool) (src dst : RegNum) (s : State) : StepResult :=
  emitFpGeneral .FABS ea rm src (some (.fr dst)) s

/-- R246, `FCOSH`: hyperbolic cosine. -/
def execFcosh (ea : EaField) (rm : Bool) (src dst : RegNum) (s : State) : StepResult :=
  emitFpGeneral .FCOSH ea rm src (some (.fr dst)) s

/-- R247, `FNEG`: negate. -/
def execFneg (ea : EaField) (rm : Bool) (src dst : RegNum) (s : State) : StepResult :=
  emitFpGeneral .FNEG ea rm src (some (.fr dst)) s

/-- R248, `FACOS`: arc cosine. -/
def execFacos (ea : EaField) (rm : Bool) (src dst : RegNum) (s : State) : StepResult :=
  emitFpGeneral .FACOS ea rm src (some (.fr dst)) s

/-- R249, `FCOS`: cosine. -/
def execFcos (ea : EaField) (rm : Bool) (src dst : RegNum) (s : State) : StepResult :=
  emitFpGeneral .FCOS ea rm src (some (.fr dst)) s

/-- R250, `FGETEXP`: get exponent. -/
def execFgetexp (ea : EaField) (rm : Bool) (src dst : RegNum) (s : State) : StepResult :=
  emitFpGeneral .FGETEXP ea rm src (some (.fr dst)) s

/-- R251, `FGETMAN`: get mantissa. -/
def execFgetman (ea : EaField) (rm : Bool) (src dst : RegNum) (s : State) : StepResult :=
  emitFpGeneral .FGETMAN ea rm src (some (.fr dst)) s

end Sys2Proof.Machine
end

