-- ==== Sys2Proof/Machine/FpuOps2.lean ====
section
/-! DEFINITION. The meanings of the instruction rows: the builders of the FPU general operations 0x20 to 0x6C
(48_fpu_ops2.md), in dispatch order. -/
namespace Sys2Proof.Machine

/-- R252, `FDIV`: divide. -/
def execFdiv (ea : EaField) (rm : Bool) (src dst : RegNum) (s : State) : StepResult :=
  emitFpGeneral .FDIV ea rm src (some (.fr dst)) s

/-- R253, `FMOD`: modulo remainder. -/
def execFmod (ea : EaField) (rm : Bool) (src dst : RegNum) (s : State) : StepResult :=
  emitFpGeneral .FMOD ea rm src (some (.fr dst)) s

/-- R254, `FADD`: add. -/
def execFadd (ea : EaField) (rm : Bool) (src dst : RegNum) (s : State) : StepResult :=
  emitFpGeneral .FADD ea rm src (some (.fr dst)) s

/-- R255, `FMUL`: multiply. -/
def execFmul (ea : EaField) (rm : Bool) (src dst : RegNum) (s : State) : StepResult :=
  emitFpGeneral .FMUL ea rm src (some (.fr dst)) s

/-- R256, `FSGLDIV`: single-precision divide. -/
def execFsgldiv (ea : EaField) (rm : Bool) (src dst : RegNum) (s : State) : StepResult :=
  emitFpGeneral .FSGLDIV ea rm src (some (.fr dst)) s

/-- R257, `FREM`: IEEE remainder. -/
def execFrem (ea : EaField) (rm : Bool) (src dst : RegNum) (s : State) : StepResult :=
  emitFpGeneral .FREM ea rm src (some (.fr dst)) s

/-- R258, `FSCALE`: scale exponent. -/
def execFscale (ea : EaField) (rm : Bool) (src dst : RegNum) (s : State) : StepResult :=
  emitFpGeneral .FSCALE ea rm src (some (.fr dst)) s

/-- R259, `FSGLMUL`: single-precision multiply. -/
def execFsglmul (ea : EaField) (rm : Bool) (src dst : RegNum) (s : State) : StepResult :=
  emitFpGeneral .FSGLMUL ea rm src (some (.fr dst)) s

/-- R260, `FSUB`: subtract. -/
def execFsub (ea : EaField) (rm : Bool) (src dst : RegNum) (s : State) : StepResult :=
  emitFpGeneral .FSUB ea rm src (some (.fr dst)) s

/-- R261, `FSINCOS`: simultaneous sine and cosine. The destination is the pair cosine, sine. -/
def execFsincos (ea : EaField) (rm : Bool) (src fps fpc : RegNum) (s : State) : StepResult :=
  emitFpGeneral .FSINCOS ea rm src (some (.fPair fpc fps)) s

/-- R262, `FCMP`: compare. -/
def execFcmp (ea : EaField) (rm : Bool) (src dst : RegNum) (s : State) : StepResult :=
  emitFpGeneral .FCMP ea rm src (some (.fr dst)) s

/-- R263, `FTST`: test. There is no destination. -/
def execFtst (ea : EaField) (rm : Bool) (src : RegNum) (s : State) : StepResult :=
  emitFpGeneral .FTST ea rm src none s

/-- R264, `FSMOVE`: move, rounded to single. -/
def execFsmove (ea : EaField) (rm : Bool) (src dst : RegNum) (s : State) : StepResult :=
  emitFpGeneral .FSMOVE ea rm src (some (.fr dst)) s

/-- R265, `FSSQRT`: square root, rounded to single. -/
def execFssqrt (ea : EaField) (rm : Bool) (src dst : RegNum) (s : State) : StepResult :=
  emitFpGeneral .FSSQRT ea rm src (some (.fr dst)) s

/-- R266, `FDMOVE`: move, rounded to double. -/
def execFdmove (ea : EaField) (rm : Bool) (src dst : RegNum) (s : State) : StepResult :=
  emitFpGeneral .FDMOVE ea rm src (some (.fr dst)) s

/-- R267, `FDSQRT`: square root, rounded to double. -/
def execFdsqrt (ea : EaField) (rm : Bool) (src dst : RegNum) (s : State) : StepResult :=
  emitFpGeneral .FDSQRT ea rm src (some (.fr dst)) s

/-- R268, `FSABS`: absolute value, rounded to single. -/
def execFsabs (ea : EaField) (rm : Bool) (src dst : RegNum) (s : State) : StepResult :=
  emitFpGeneral .FSABS ea rm src (some (.fr dst)) s

/-- R269, `FSNEG`: negate, rounded to single. -/
def execFsneg (ea : EaField) (rm : Bool) (src dst : RegNum) (s : State) : StepResult :=
  emitFpGeneral .FSNEG ea rm src (some (.fr dst)) s

/-- R270, `FDABS`: absolute value, rounded to double. -/
def execFdabs (ea : EaField) (rm : Bool) (src dst : RegNum) (s : State) : StepResult :=
  emitFpGeneral .FDABS ea rm src (some (.fr dst)) s

/-- R271, `FDNEG`: negate, rounded to double. -/
def execFdneg (ea : EaField) (rm : Bool) (src dst : RegNum) (s : State) : StepResult :=
  emitFpGeneral .FDNEG ea rm src (some (.fr dst)) s

/-- R272, `FSDIV`: divide, rounded to single. -/
def execFsdiv (ea : EaField) (rm : Bool) (src dst : RegNum) (s : State) : StepResult :=
  emitFpGeneral .FSDIV ea rm src (some (.fr dst)) s

/-- R273, `FSADD`: add, rounded to single. -/
def execFsadd (ea : EaField) (rm : Bool) (src dst : RegNum) (s : State) : StepResult :=
  emitFpGeneral .FSADD ea rm src (some (.fr dst)) s

/-- R274, `FSMUL`: multiply, rounded to single. -/
def execFsmul (ea : EaField) (rm : Bool) (src dst : RegNum) (s : State) : StepResult :=
  emitFpGeneral .FSMUL ea rm src (some (.fr dst)) s

/-- R275, `FDDIV`: divide, rounded to double. -/
def execFddiv (ea : EaField) (rm : Bool) (src dst : RegNum) (s : State) : StepResult :=
  emitFpGeneral .FDDIV ea rm src (some (.fr dst)) s

/-- R276, `FDADD`: add, rounded to double. -/
def execFdadd (ea : EaField) (rm : Bool) (src dst : RegNum) (s : State) : StepResult :=
  emitFpGeneral .FDADD ea rm src (some (.fr dst)) s

/-- R277, `FDMUL`: multiply, rounded to double. -/
def execFdmul (ea : EaField) (rm : Bool) (src dst : RegNum) (s : State) : StepResult :=
  emitFpGeneral .FDMUL ea rm src (some (.fr dst)) s

/-- R278, `FSSUB`: subtract, rounded to single. -/
def execFssub (ea : EaField) (rm : Bool) (src dst : RegNum) (s : State) : StepResult :=
  emitFpGeneral .FSSUB ea rm src (some (.fr dst)) s

/-- R279, `FDSUB`: subtract, rounded to double. -/
def execFdsub (ea : EaField) (rm : Bool) (src dst : RegNum) (s : State) : StepResult :=
  emitFpGeneral .FDSUB ea rm src (some (.fr dst)) s

end Sys2Proof.Machine
end

