-- ==== Sys2Proof/Machine/Group0.lean ====
section
/-! DEFINITION. The meanings of the instruction rows: the builders of group 0000 (40_group0.md), in dispatch order.
-/
namespace Sys2Proof.Machine

/-- R82, `ORI to CCR`: ORI to CCR. -/
def execOriToCcr (s : State) : StepResult := emitImmToImplied .ORITOCCR 1 s

/-- R83, `ORI to SR`: ORI to SR. -/
def execOriToSr (s : State) : StepResult := emitImmToImplied .ORITOSR 2 s

/-- R84, `ANDI to CCR`: ANDI to CCR. -/
def execAndiToCcr (s : State) : StepResult := emitImmToImplied .ANDITOCCR 1 s

/-- R85, `ANDI to SR`: ANDI to SR. -/
def execAndiToSr (s : State) : StepResult := emitImmToImplied .ANDITOSR 2 s

/-- R86, `EORI to CCR`: EORI to CCR. -/
def execEoriToCcr (s : State) : StepResult := emitImmToImplied .EORITOCCR 1 s

/-- R87, `EORI to SR`: EORI to SR. -/
def execEoriToSr (s : State) : StepResult := emitImmToImplied .EORITOSR 2 s

/-- R88, `MOVEP`: move peripheral data. -/
def execMovep (dx : RegNum) (toMem long : Bool) (ay : RegNum) (s : State) : StepResult :=
  let d := pullDisp16 s
  let m := Operand.arDisp ay (plainDisp d.1)
  if toMem then emit .MOVEP (sizeWL long) (some (.dr dx)) (some m) none d.2
  else emit .MOVEP (sizeWL long) (some m) (some (.dr dx)) none d.2

/-- R89, `BTST Dn`: BTST with the bit number in a data register. -/
def execBtstDn (dn : RegNum) (ea : EaField) (s : State) : StepResult := emitBitDn .BTST dn ea s

/-- R90, `BCHG Dn`: BCHG with the bit number in a data register. -/
def execBchgDn (dn : RegNum) (ea : EaField) (s : State) : StepResult := emitBitDn .BCHG dn ea s

/-- R91, `BCLR Dn`: BCLR with the bit number in a data register. -/
def execBclrDn (dn : RegNum) (ea : EaField) (s : State) : StepResult := emitBitDn .BCLR dn ea s

/-- R92, `BSET Dn`: BSET with the bit number in a data register. -/
def execBsetDn (dn : RegNum) (ea : EaField) (s : State) : StepResult := emitBitDn .BSET dn ea s

/-- R93, `BTST #`: BTST with a static bit number. -/
def execBtstImm (ea : EaField) (s : State) : StepResult := emitBitImm .BTST ea s

/-- R94, `BCHG #`: BCHG with a static bit number. -/
def execBchgImm (ea : EaField) (s : State) : StepResult := emitBitImm .BCHG ea s

/-- R95, `BCLR #`: BCLR with a static bit number. -/
def execBclrImm (ea : EaField) (s : State) : StepResult := emitBitImm .BCLR ea s

/-- R96, `BSET #`: BSET with a static bit number. -/
def execBsetImm (ea : EaField) (s : State) : StepResult := emitBitImm .BSET ea s

/-- R97, `RTM`: return from module. -/
def execRtm (rn : RegField) (s : State) : StepResult := emit .RTM 0 (some (regOperand rn)) none none s

/-- R98, `CALLM`: call module. -/
def execCallm (ea : EaField) (s : State) : StepResult := emitByteToEa .CALLM 0 0 ea s

/-- R99, `CMP2`: compare register against bounds. -/
def execCmp2 (ss : BitVec 2) (ea : EaField) (rn : RegField) (s : State) : StepResult := emitBounds .CMP2 ss ea rn s

/-- R100, `CHK2`: compare register against bounds and trap. -/
def execChk2 (ss : BitVec 2) (ea : EaField) (rn : RegField) (s : State) : StepResult := emitBounds .CHK2 ss ea rn s

/-- R101, `CAS2`: compare and swap with two operands (refused). The row is taken and refused by name: the call ends
with `NotImplemented`, no further word is read (decision D20). -/
def execCas2 (_long : Bool) (s : State) : StepResult := raiseError .notImplemented s

/-- R102, `CAS.B`: compare and swap. -/
def execCasB (ea : EaField) (s : State) : StepResult := emitCas 0b01 ea s

/-- R102, `CAS.W`: compare and swap. -/
def execCasW (ea : EaField) (s : State) : StepResult := emitCas 0b10 ea s

/-- R102, `CAS.L`: compare and swap. -/
def execCasL (ea : EaField) (s : State) : StepResult := emitCas 0b11 ea s

/-- R103, `ORI`: immediate operation. -/
def execOri (ss : BitVec 2) (ea : EaField) (s : State) : StepResult := emitImmToEa .ORI ss ea s

/-- R104, `ANDI`: immediate operation. -/
def execAndi (ss : BitVec 2) (ea : EaField) (s : State) : StepResult := emitImmToEa .ANDI ss ea s

/-- R105, `SUBI`: immediate operation. -/
def execSubi (ss : BitVec 2) (ea : EaField) (s : State) : StepResult := emitImmToEa .SUBI ss ea s

/-- R106, `ADDI`: immediate operation. -/
def execAddi (ss : BitVec 2) (ea : EaField) (s : State) : StepResult := emitImmToEa .ADDI ss ea s

/-- R107, `EORI`: immediate operation. -/
def execEori (ss : BitVec 2) (ea : EaField) (s : State) : StepResult := emitImmToEa .EORI ss ea s

/-- R108, `CMPI`: immediate operation. -/
def execCmpi (ss : BitVec 2) (ea : EaField) (s : State) : StepResult := emitImmToEa .CMPI ss ea s

/-- R109, `MOVES`: move to/from address space. The direction is `w2[11]`. -/
def execMoves (ss : BitVec 2) (ea : EaField) (s : State) : StepResult :=
  withSize (sizeStd ss) s fun size =>
    let w2 := pull16 s
    let rn := regOperand (regOf w2.1 12)
    if bitOf w2.1 11 then emitToEa .MOVES size rn ea w2.2 else emitEaTo .MOVES size ea rn w2.2

end Sys2Proof.Machine
end

