-- ==== Sys2Proof/Machine/Group4.lean ====
section
/-! DEFINITION. The meanings of the instruction rows: the builders of group 0100 (42_group4.md), in dispatch order.
-/
namespace Sys2Proof.Machine

/-- R114, `ILLEGAL`: take illegal instruction trap. A successful decode (90_conflicts.md C11). -/
def execIllegal (s : State) : StepResult := emit .ILLEGAL 0 none none none s

/-- R115, `BGND`: enter background mode. -/
def execBgnd (s : State) : StepResult := emit .BGND 0 none none none s

/-- R116, `RESET`: reset external devices. -/
def execReset (s : State) : StepResult := emit .RESET 0 none none none s

/-- R117, `NOP`: no operation. -/
def execNop (s : State) : StepResult := emit .NOP 0 none none none s

/-- R118, `STOP`: load status register and stop. -/
def execStop (s : State) : StepResult :=
  let w := pull16 s
  emit .STOP 0 (some (.imm16 w.1)) none none w.2

/-- R119, `RTE`: return from exception. -/
def execRte (s : State) : StepResult := emit .RTE 0 none none none s

/-- R120, `RTD`: return and deallocate. The displacement is output raw. -/
def execRtd (s : State) : StepResult :=
  let w := pull16 s
  emit .RTD 0 (some (.imm16 w.1)) none none w.2

/-- R121, `RTS`: return from subroutine. -/
def execRts (s : State) : StepResult := emit .RTS 0 none none none s

/-- R122, `TRAPV`: trap on overflow. -/
def execTrapv (s : State) : StepResult := emit .TRAPV 0 none none none s

/-- R123, `RTR`: return and restore condition codes. -/
def execRtr (s : State) : StepResult := emit .RTR 0 none none none s

/-- R124, `MOVEC Rc,Rn`: MOVEC from a control register. The 12-bit number is not checked (10_state.md R11). -/
def execMovecFrom (s : State) : StepResult :=
  let w2 := pull16 s
  emit .MOVEC 4 (some (.controlReg (field w2.1 0 12))) (some (regOperand (regOf w2.1 12))) none w2.2

/-- R125, `MOVEC Rn,Rc`: MOVEC to a control register. The 12-bit number is not checked (10_state.md R11). -/
def execMovecTo (s : State) : StepResult :=
  let w2 := pull16 s
  emit .MOVEC 4 (some (regOperand (regOf w2.1 12))) (some (.controlReg (field w2.1 0 12))) none w2.2

/-- R126, `TRAP`: trap. -/
def execTrap (vector : BitVec 4) (s : State) : StepResult :=
  emit .TRAP 0 (some (.imm8 (vector.setWidth 8))) none none s

/-- R127, `LINK.W`: link and allocate. -/
def execLinkW (an : RegNum) (s : State) : StepResult :=
  let w := pull16 s
  emit .LINK 2 (some (.ar an)) (some (.imm16 w.1)) none w.2

/-- R128, `UNLK`: unlink. -/
def execUnlk (an : RegNum) (s : State) : StepResult := emit .UNLK 0 (some (.ar an)) none none s

/-- R129, `MOVE An,USP`: MOVE to USP. -/
def execMoveToUsp (an : RegNum) (s : State) : StepResult := emit .MOVETOUSP 4 (some (.ar an)) (some .implied) none s

/-- R130, `MOVE USP,An`: MOVE from USP. -/
def execMoveFromUsp (an : RegNum) (s : State) : StepResult :=
  emit .MOVEFROMUSP 4 (some .implied) (some (.ar an)) none s

/-- R131, `JSR`: jump to subroutine. Hint 0: an immediate EA gives `BadSize`. -/
def execJsr (ea : EaField) (s : State) : StepResult := emitEa .JSR 0 0 ea none s

/-- R132, `JMP`: jump. Hint 0: an immediate EA gives `BadSize`. -/
def execJmp (ea : EaField) (s : State) : StepResult := emitEa .JMP 0 0 ea none s

/-- R133, `LINK.L`: link and allocate, long displacement. -/
def execLinkL (an : RegNum) (s : State) : StepResult :=
  let v := pull32 s
  emit .LINK 4 (some (.ar an)) (some (.imm32 v.1)) none v.2

/-- R134, `NBCD`: negate decimal with extend. -/
def execNbcd (ea : EaField) (s : State) : StepResult := emitEa .NBCD 1 1 ea none s

/-- R135, `SWAP`: swap register halves. -/
def execSwap (dn : RegNum) (s : State) : StepResult := emit .SWAP 2 (some (.dr dn)) none none s

/-- R136, `BKPT`: breakpoint. -/
def execBkpt (vector : BitVec 3) (s : State) : StepResult :=
  emit .BKPT 0 (some (.imm8 (vector.setWidth 8))) none none s

/-- R137, `PEA`: push effective address. -/
def execPea (ea : EaField) (s : State) : StepResult := emitEa .PEA 4 4 ea none s

/-- R138, `EXT.W`: sign-extend byte to word. -/
def execExtW (dn : RegNum) (s : State) : StepResult := emit .EXT 2 (some (.dr dn)) none none s

/-- R139, `EXT.L`: sign-extend word to long. -/
def execExtL (dn : RegNum) (s : State) : StepResult := emit .EXT 4 (some (.dr dn)) none none s

/-- R140, `EXTB.L`: sign-extend byte to long. -/
def execExtbL (dn : RegNum) (s : State) : StepResult := emit .EXTB 4 (some (.dr dn)) none none s

/-- R141, `MOVEM regs,<ea>`: MOVEM registers to memory. The predecrement mode alone reverses the mask
(30_encoding.md R71). -/
def execMovemStore (long : Bool) (ea : EaField) (s : State) : StepResult :=
  let m := pull16 s
  let dst := resolveEa ea (sizeWL long) m.2
  let n := if ea.mode = 4 then reverse16 m.1 else m.1
  emit .MOVEM (sizeWL long) (some (.regList n)) (some dst.1) none dst.2

/-- R142, `MOVEM <ea>,regs`: MOVEM memory to registers. The mask is output as encoded (30_encoding.md R71). -/
def execMovemLoad (long : Bool) (ea : EaField) (s : State) : StepResult :=
  let m := pull16 s
  emitEaTo .MOVEM (sizeWL long) ea (.regList m.1) m.2

/-- R143, `MOVE SR,<ea>`: MOVE from SR. -/
def execMoveFromSr (ea : EaField) (s : State) : StepResult := emitToEa .MOVEFROMSR 2 .implied ea s

/-- R144, `MOVE CCR,<ea>`: MOVE from CCR. -/
def execMoveFromCcr (ea : EaField) (s : State) : StepResult := emitToEa .MOVEFROMCCR 2 .implied ea s

/-- R145, `MOVE <ea>,CCR`: MOVE to CCR. -/
def execMoveToCcr (ea : EaField) (s : State) : StepResult := emitEaTo .MOVETOCCR 2 ea .implied s

/-- R146, `MOVE <ea>,SR`: MOVE to SR. -/
def execMoveToSr (ea : EaField) (s : State) : StepResult := emitEaTo .MOVETOSR 2 ea .implied s

/-- R147, `NEGX`: negate with extend. -/
def execNegx (ss : BitVec 2) (ea : EaField) (s : State) : StepResult := emitSizedEa .NEGX ss ea s

/-- R148, `CLR`: clear. -/
def execClr (ss : BitVec 2) (ea : EaField) (s : State) : StepResult := emitSizedEa .CLR ss ea s

/-- R149, `NEG`: negate. -/
def execNeg (ss : BitVec 2) (ea : EaField) (s : State) : StepResult := emitSizedEa .NEG ss ea s

/-- R150, `NOT`: logical complement. -/
def execNot (ss : BitVec 2) (ea : EaField) (s : State) : StepResult := emitSizedEa .NOT ss ea s

/-- R151, `TAS`: test and set. -/
def execTas (ea : EaField) (s : State) : StepResult := emitEa .TAS 1 1 ea none s

/-- R152, `TST`: test an operand. -/
def execTst (ss : BitVec 2) (ea : EaField) (s : State) : StepResult := emitSizedEa .TST ss ea s

/-- R153, `MULU.L`: unsigned multiply long. -/
def execMuluL (ea : EaField) (dl : RegNum) (is64 : Bool) (dh : RegNum) (s : State) : StepResult :=
  emitMulL .MULU ea dl is64 dh s

/-- R154, `MULS.L`: signed multiply long. -/
def execMulsL (ea : EaField) (dl : RegNum) (is64 : Bool) (dh : RegNum) (s : State) : StepResult :=
  emitMulL .MULS ea dl is64 dh s

/-- R155, `DIVU.L 64`: DIVU.L with 64-bit dividend. -/
def execDivuL64 (ea : EaField) (dq dr : RegNum) (s : State) : StepResult := emitDivL64 .DIVU ea dq dr s

/-- R156, `DIVU.L 32`: DIVU.L / DIVUL.L with 32-bit dividend. -/
def execDivuL32 (ea : EaField) (dq dr : RegNum) (s : State) : StepResult := emitDivL32 .DIVU .DIVUL ea dq dr s

/-- R157, `DIVS.L 64`: DIVS.L with 64-bit dividend. -/
def execDivsL64 (ea : EaField) (dq dr : RegNum) (s : State) : StepResult := emitDivL64 .DIVS ea dq dr s

/-- R158, `DIVS.L 32`: DIVS.L / DIVSL.L with 32-bit dividend. -/
def execDivsL32 (ea : EaField) (dq dr : RegNum) (s : State) : StepResult := emitDivL32 .DIVS .DIVSL ea dq dr s

/-- R159, `CHK.L`: check register against bound. -/
def execChkL (dn : RegNum) (ea : EaField) (s : State) : StepResult := emitEaTo .CHK 4 ea (.dr dn) s

/-- R160, `CHK.W`: check register against bound. -/
def execChkW (dn : RegNum) (ea : EaField) (s : State) : StepResult := emitEaTo .CHK 2 ea (.dr dn) s

/-- R161, `LEA`: load effective address. -/
def execLea (an : RegNum) (ea : EaField) (s : State) : StepResult := emitEaTo .LEA 4 ea (.ar an) s

end Sys2Proof.Machine
end

