-- ==== Sys2Proof/Machine/Group5.lean ====
section
/-! DEFINITION. The meanings of the instruction rows: the builders of group 0101 (43_group5.md), in dispatch order.
-/
namespace Sys2Proof.Machine

/-- R163, `DBcc`: test condition, decrement and branch. -/
def execDbcc (cond : BitVec 4) (dn : RegNum) (s : State) : StepResult :=
  let d := pullDisp16 s
  emit .DBCC 2 (some (.dr dn)) (some (branchTarget 2 d.1)) (some (.condCode (condOf cond))) d.2

/-- R164, `TRAPcc.W`: trap on condition with operand. -/
def execTrapccW (cond : BitVec 4) (s : State) : StepResult :=
  let w := pull16 s
  emit .TRAPCC 2 (some (.imm16 w.1)) none (some (.condCode (condOf cond))) w.2

/-- R165, `TRAPcc.L`: trap on condition with operand. -/
def execTrapccL (cond : BitVec 4) (s : State) : StepResult :=
  let v := pull32 s
  emit .TRAPCC 4 (some (.imm32 v.1)) none (some (.condCode (condOf cond))) v.2

/-- R166, `TRAPcc`: trap on condition. -/
def execTrapcc (cond : BitVec 4) (s : State) : StepResult :=
  emit .TRAPCC 0 none none (some (.condCode (condOf cond))) s

/-- R167, `Scc`: set according to condition. -/
def execScc (cond : BitVec 4) (ea : EaField) (s : State) : StepResult :=
  emitEa .SCC 1 1 ea (some (.condCode (condOf cond))) s

/-- R168, `ADDQ`: add quick. -/
def execAddq (data : BitVec 3) (ss : BitVec 2) (ea : EaField) (s : State) : StepResult := emitQuick .ADDQ data ss ea s

/-- R169, `SUBQ`: subtract quick. -/
def execSubq (data : BitVec 3) (ss : BitVec 2) (ea : EaField) (s : State) : StepResult := emitQuick .SUBQ data ss ea s

end Sys2Proof.Machine
end

