-- ==== Sys2Proof/Machine/GroupE.lean ====
section
/-! DEFINITION. The meanings of the instruction rows: the builders of group 1110 (46_group_e.md), in dispatch order.
-/
namespace Sys2Proof.Machine

/-- R199, `BFTST`: test bit field. -/
def execBftst (ea : EaField) (s : State) : StepResult := emitBf .BFTST ea s

/-- R200, `BFEXTU`: extract bit field unsigned. -/
def execBfextu (ea : EaField) (s : State) : StepResult := emitBfToDn .BFEXTU ea s

/-- R201, `BFCHG`: change bit field. -/
def execBfchg (ea : EaField) (s : State) : StepResult := emitBf .BFCHG ea s

/-- R202, `BFEXTS`: extract bit field signed. -/
def execBfexts (ea : EaField) (s : State) : StepResult := emitBfToDn .BFEXTS ea s

/-- R203, `BFCLR`: clear bit field. -/
def execBfclr (ea : EaField) (s : State) : StepResult := emitBf .BFCLR ea s

/-- R204, `BFFFO`: find first one in bit field. -/
def execBfffo (ea : EaField) (s : State) : StepResult := emitBfToDn .BFFFO ea s

/-- R205, `BFSET`: set bit field. -/
def execBfset (ea : EaField) (s : State) : StepResult := emitBf .BFSET ea s

/-- R206, `BFINS`: insert bit field. -/
def execBfins (ea : EaField) (s : State) : StepResult :=
  let w2 := pull16 s
  let e := resolveEa ea 0 w2.2
  emit .BFINS 0 (some (.dr (field w2.1 12 3))) (some e.1) (some (bfExtra w2.1)) e.2

/-- R207, `ASR <ea>`: ASR memory: shift/rotate a word in memory by one. -/
def execAsrEa (ea : EaField) (s : State) : StepResult := emitEa .ASR 2 2 ea none s

/-- R208, `ASL <ea>`: ASL memory: shift/rotate a word in memory by one. -/
def execAslEa (ea : EaField) (s : State) : StepResult := emitEa .ASL 2 2 ea none s

/-- R209, `LSR <ea>`: LSR memory: shift/rotate a word in memory by one. -/
def execLsrEa (ea : EaField) (s : State) : StepResult := emitEa .LSR 2 2 ea none s

/-- R210, `LSL <ea>`: LSL memory: shift/rotate a word in memory by one. -/
def execLslEa (ea : EaField) (s : State) : StepResult := emitEa .LSL 2 2 ea none s

/-- R211, `ROXR <ea>`: ROXR memory: shift/rotate a word in memory by one. -/
def execRoxrEa (ea : EaField) (s : State) : StepResult := emitEa .ROXR 2 2 ea none s

/-- R212, `ROXL <ea>`: ROXL memory: shift/rotate a word in memory by one. -/
def execRoxlEa (ea : EaField) (s : State) : StepResult := emitEa .ROXL 2 2 ea none s

/-- R213, `ROR <ea>`: ROR memory: shift/rotate a word in memory by one. -/
def execRorEa (ea : EaField) (s : State) : StepResult := emitEa .ROR 2 2 ea none s

/-- R214, `ROL <ea>`: ROL memory: shift/rotate a word in memory by one. -/
def execRolEa (ea : EaField) (s : State) : StepResult := emitEa .ROL 2 2 ea none s

/-- R215, `ASR Dy`: ASR register: shift/rotate a data register. -/
def execAsrDy (cnt : BitVec 3) (ss : BitVec 2) (ir : Bool) (dy : RegNum) (s : State) : StepResult :=
  emitShift .ASR cnt ss ir dy s

/-- R216, `ASL Dy`: ASL register: shift/rotate a data register. -/
def execAslDy (cnt : BitVec 3) (ss : BitVec 2) (ir : Bool) (dy : RegNum) (s : State) : StepResult :=
  emitShift .ASL cnt ss ir dy s

/-- R217, `LSR Dy`: LSR register: shift/rotate a data register. -/
def execLsrDy (cnt : BitVec 3) (ss : BitVec 2) (ir : Bool) (dy : RegNum) (s : State) : StepResult :=
  emitShift .LSR cnt ss ir dy s

/-- R218, `LSL Dy`: LSL register: shift/rotate a data register. -/
def execLslDy (cnt : BitVec 3) (ss : BitVec 2) (ir : Bool) (dy : RegNum) (s : State) : StepResult :=
  emitShift .LSL cnt ss ir dy s

/-- R219, `ROXR Dy`: ROXR register: shift/rotate a data register. -/
def execRoxrDy (cnt : BitVec 3) (ss : BitVec 2) (ir : Bool) (dy : RegNum) (s : State) : StepResult :=
  emitShift .ROXR cnt ss ir dy s

/-- R220, `ROXL Dy`: ROXL register: shift/rotate a data register. -/
def execRoxlDy (cnt : BitVec 3) (ss : BitVec 2) (ir : Bool) (dy : RegNum) (s : State) : StepResult :=
  emitShift .ROXL cnt ss ir dy s

/-- R221, `ROR Dy`: ROR register: shift/rotate a data register. -/
def execRorDy (cnt : BitVec 3) (ss : BitVec 2) (ir : Bool) (dy : RegNum) (s : State) : StepResult :=
  emitShift .ROR cnt ss ir dy s

/-- R222, `ROL Dy`: ROL register: shift/rotate a data register. -/
def execRolDy (cnt : BitVec 3) (ss : BitVec 2) (ir : Bool) (dy : RegNum) (s : State) : StepResult :=
  emitShift .ROL cnt ss ir dy s

end Sys2Proof.Machine
end

