-- ==== Sys2Proof/Machine/Move.lean ====
section
/-! DEFINITION. The meanings of the instruction rows: the builders of groups 0001 to 0011 (41_move.md), in dispatch
order. -/
namespace Sys2Proof.Machine

/-- R112, `MOVE.B`: move data. -/
def execMoveB (src dst : EaField) (s : State) : StepResult := emitMove 0b01 src dst s

/-- R111, `MOVEA.L`: move address. -/
def execMoveaL (an : RegNum) (ea : EaField) (s : State) : StepResult := emitMovea 0b10 an ea s

/-- R112, `MOVE.L`: move data. -/
def execMoveL (src dst : EaField) (s : State) : StepResult := emitMove 0b10 src dst s

/-- R111, `MOVEA.W`: move address. -/
def execMoveaW (an : RegNum) (ea : EaField) (s : State) : StepResult := emitMovea 0b11 an ea s

/-- R112, `MOVE.W`: move data. -/
def execMoveW (src dst : EaField) (s : State) : StepResult := emitMove 0b11 src dst s

end Sys2Proof.Machine
end

