-- ==== Sys2Proof/Machine/Dispatch.lean ====
section
/-! DEFINITION. The one arm of each instruction row: a direct call of its meaning. -/
namespace Sys2Proof.Machine

def exec (i : Instr) (s : State) : Host.Outcome State Fault Refusal :=
  match i with
  -- group 0000
  | .oriToCcr => Sys2Proof.Machine.execOriToCcr s
  | .oriToSr => Sys2Proof.Machine.execOriToSr s
  | .andiToCcr => Sys2Proof.Machine.execAndiToCcr s
  | .andiToSr => Sys2Proof.Machine.execAndiToSr s
  | .eoriToCcr => Sys2Proof.Machine.execEoriToCcr s
  | .eoriToSr => Sys2Proof.Machine.execEoriToSr s
  | .movep dx toMem long ay => Sys2Proof.Machine.execMovep dx toMem long ay s
  | .btstDn dn ea => Sys2Proof.Machine.execBtstDn dn ea s
  | .bchgDn dn ea => Sys2Proof.Machine.execBchgDn dn ea s
  | .bclrDn dn ea => Sys2Proof.Machine.execBclrDn dn ea s
  | .bsetDn dn ea => Sys2Proof.Machine.execBsetDn dn ea s
  | .btstImm ea => Sys2Proof.Machine.execBtstImm ea s
  | .bchgImm ea => Sys2Proof.Machine.execBchgImm ea s
  | .bclrImm ea => Sys2Proof.Machine.execBclrImm ea s
  | .bsetImm ea => Sys2Proof.Machine.execBsetImm ea s
  | .rtm rn => Sys2Proof.Machine.execRtm rn s
  | .callm ea => Sys2Proof.Machine.execCallm ea s
  | .cmp2 ss ea rn => Sys2Proof.Machine.execCmp2 ss ea rn s
  | .chk2 ss ea rn => Sys2Proof.Machine.execChk2 ss ea rn s
  | .cas2 long => Sys2Proof.Machine.execCas2 long s
  | .casB ea => Sys2Proof.Machine.execCasB ea s
  | .casW ea => Sys2Proof.Machine.execCasW ea s
  | .casL ea => Sys2Proof.Machine.execCasL ea s
  | .ori ss ea => Sys2Proof.Machine.execOri ss ea s
  | .andi ss ea => Sys2Proof.Machine.execAndi ss ea s
  | .subi ss ea => Sys2Proof.Machine.execSubi ss ea s
  | .addi ss ea => Sys2Proof.Machine.execAddi ss ea s
  | .eori ss ea => Sys2Proof.Machine.execEori ss ea s
  | .cmpi ss ea => Sys2Proof.Machine.execCmpi ss ea s
  | .moves ss ea => Sys2Proof.Machine.execMoves ss ea s
  -- group 0001
  | .moveB src dst => Sys2Proof.Machine.execMoveB src dst s
  -- group 0010
  | .moveaL an ea => Sys2Proof.Machine.execMoveaL an ea s
  | .moveL src dst => Sys2Proof.Machine.execMoveL src dst s
  -- group 0011
  | .moveaW an ea => Sys2Proof.Machine.execMoveaW an ea s
  | .moveW src dst => Sys2Proof.Machine.execMoveW src dst s
  -- group 0100
  | .illegal => Sys2Proof.Machine.execIllegal s
  | .bgnd => Sys2Proof.Machine.execBgnd s
  | .reset => Sys2Proof.Machine.execReset s
  | .nop => Sys2Proof.Machine.execNop s
  | .stop => Sys2Proof.Machine.execStop s
  | .rte => Sys2Proof.Machine.execRte s
  | .rtd => Sys2Proof.Machine.execRtd s
  | .rts => Sys2Proof.Machine.execRts s
  | .trapv => Sys2Proof.Machine.execTrapv s
  | .rtr => Sys2Proof.Machine.execRtr s
  | .movecFrom => Sys2Proof.Machine.execMovecFrom s
  | .movecTo => Sys2Proof.Machine.execMovecTo s
  | .trap vector => Sys2Proof.Machine.execTrap vector s
  | .linkW an => Sys2Proof.Machine.execLinkW an s
  | .unlk an => Sys2Proof.Machine.execUnlk an s
  | .moveToUsp an => Sys2Proof.Machine.execMoveToUsp an s
  | .moveFromUsp an => Sys2Proof.Machine.execMoveFromUsp an s
  | .jsr ea => Sys2Proof.Machine.execJsr ea s
  | .jmp ea => Sys2Proof.Machine.execJmp ea s
  | .linkL an => Sys2Proof.Machine.execLinkL an s
  | .nbcd ea => Sys2Proof.Machine.execNbcd ea s
  | .swap dn => Sys2Proof.Machine.execSwap dn s
  | .bkpt vector => Sys2Proof.Machine.execBkpt vector s
  | .pea ea => Sys2Proof.Machine.execPea ea s
  | .extW dn => Sys2Proof.Machine.execExtW dn s
  | .extL dn => Sys2Proof.Machine.execExtL dn s
  | .extbL dn => Sys2Proof.Machine.execExtbL dn s
  | .movemStore long ea => Sys2Proof.Machine.execMovemStore long ea s
  | .movemLoad long ea => Sys2Proof.Machine.execMovemLoad long ea s
  | .moveFromSr ea => Sys2Proof.Machine.execMoveFromSr ea s
  | .moveFromCcr ea => Sys2Proof.Machine.execMoveFromCcr ea s
  | .moveToCcr ea => Sys2Proof.Machine.execMoveToCcr ea s
  | .moveToSr ea => Sys2Proof.Machine.execMoveToSr ea s
  | .negx ss ea => Sys2Proof.Machine.execNegx ss ea s
  | .clr ss ea => Sys2Proof.Machine.execClr ss ea s
  | .neg ss ea => Sys2Proof.Machine.execNeg ss ea s
  | .not ss ea => Sys2Proof.Machine.execNot ss ea s
  | .tas ea => Sys2Proof.Machine.execTas ea s
  | .tst ss ea => Sys2Proof.Machine.execTst ss ea s
  | .muluL ea dl is64 dh => Sys2Proof.Machine.execMuluL ea dl is64 dh s
  | .mulsL ea dl is64 dh => Sys2Proof.Machine.execMulsL ea dl is64 dh s
  | .divuL64 ea dq dr => Sys2Proof.Machine.execDivuL64 ea dq dr s
  | .divuL32 ea dq dr => Sys2Proof.Machine.execDivuL32 ea dq dr s
  | .divsL64 ea dq dr => Sys2Proof.Machine.execDivsL64 ea dq dr s
  | .divsL32 ea dq dr => Sys2Proof.Machine.execDivsL32 ea dq dr s
  | .chkL dn ea => Sys2Proof.Machine.execChkL dn ea s
  | .chkW dn ea => Sys2Proof.Machine.execChkW dn ea s
  | .lea an ea => Sys2Proof.Machine.execLea an ea s
  -- group 0101
  | .dbcc cond dn => Sys2Proof.Machine.execDbcc cond dn s
  | .trapccW cond => Sys2Proof.Machine.execTrapccW cond s
  | .trapccL cond => Sys2Proof.Machine.execTrapccL cond s
  | .trapcc cond => Sys2Proof.Machine.execTrapcc cond s
  | .scc cond ea => Sys2Proof.Machine.execScc cond ea s
  | .addq data ss ea => Sys2Proof.Machine.execAddq data ss ea s
  | .subq data ss ea => Sys2Proof.Machine.execSubq data ss ea s
  -- group 0110
  | .bra disp => Sys2Proof.Machine.execBra disp s
  | .bsr disp => Sys2Proof.Machine.execBsr disp s
  | .bcc cond disp => Sys2Proof.Machine.execBcc cond disp s
  -- group 0111
  | .moveq dn data => Sys2Proof.Machine.execMoveq dn data s
  -- group 1000
  | .divuW dn ea => Sys2Proof.Machine.execDivuW dn ea s
  | .divsW dn ea => Sys2Proof.Machine.execDivsW dn ea s
  | .sbcd rx mem ry => Sys2Proof.Machine.execSbcd rx mem ry s
  | .pack rx mem ry => Sys2Proof.Machine.execPack rx mem ry s
  | .unpk rx mem ry => Sys2Proof.Machine.execUnpk rx mem ry s
  | .or dn toEa ss ea => Sys2Proof.Machine.execOr dn toEa ss ea s
  -- group 1001
  | .suba an long ea => Sys2Proof.Machine.execSuba an long ea s
  | .subx rx ss mem ry => Sys2Proof.Machine.execSubx rx ss mem ry s
  | .sub dn toEa ss ea => Sys2Proof.Machine.execSub dn toEa ss ea s
  -- group 1011
  | .cmpa an long ea => Sys2Proof.Machine.execCmpa an long ea s
  | .cmpm ax ss ay => Sys2Proof.Machine.execCmpm ax ss ay s
  | .cmp dn ss ea => Sys2Proof.Machine.execCmp dn ss ea s
  | .eor dn ss ea => Sys2Proof.Machine.execEor dn ss ea s
  -- group 1100
  | .muluW dn ea => Sys2Proof.Machine.execMuluW dn ea s
  | .mulsW dn ea => Sys2Proof.Machine.execMulsW dn ea s
  | .abcd rx mem ry => Sys2Proof.Machine.execAbcd rx mem ry s
  | .exgDD rx ry => Sys2Proof.Machine.execExgDD rx ry s
  | .exgAA rx ry => Sys2Proof.Machine.execExgAA rx ry s
  | .exgDA rx ry => Sys2Proof.Machine.execExgDA rx ry s
  | .and dn toEa ss ea => Sys2Proof.Machine.execAnd dn toEa ss ea s
  -- group 1101
  | .adda an long ea => Sys2Proof.Machine.execAdda an long ea s
  | .addx rx ss mem ry => Sys2Proof.Machine.execAddx rx ss mem ry s
  | .add dn toEa ss ea => Sys2Proof.Machine.execAdd dn toEa ss ea s
  -- group 1110
  | .bftst ea => Sys2Proof.Machine.execBftst ea s
  | .bfextu ea => Sys2Proof.Machine.execBfextu ea s
  | .bfchg ea => Sys2Proof.Machine.execBfchg ea s
  | .bfexts ea => Sys2Proof.Machine.execBfexts ea s
  | .bfclr ea => Sys2Proof.Machine.execBfclr ea s
  | .bfffo ea => Sys2Proof.Machine.execBfffo ea s
  | .bfset ea => Sys2Proof.Machine.execBfset ea s
  | .bfins ea => Sys2Proof.Machine.execBfins ea s
  | .asrEa ea => Sys2Proof.Machine.execAsrEa ea s
  | .aslEa ea => Sys2Proof.Machine.execAslEa ea s
  | .lsrEa ea => Sys2Proof.Machine.execLsrEa ea s
  | .lslEa ea => Sys2Proof.Machine.execLslEa ea s
  | .roxrEa ea => Sys2Proof.Machine.execRoxrEa ea s
  | .roxlEa ea => Sys2Proof.Machine.execRoxlEa ea s
  | .rorEa ea => Sys2Proof.Machine.execRorEa ea s
  | .rolEa ea => Sys2Proof.Machine.execRolEa ea s
  | .asrDy cnt ss ir dy => Sys2Proof.Machine.execAsrDy cnt ss ir dy s
  | .aslDy cnt ss ir dy => Sys2Proof.Machine.execAslDy cnt ss ir dy s
  | .lsrDy cnt ss ir dy => Sys2Proof.Machine.execLsrDy cnt ss ir dy s
  | .lslDy cnt ss ir dy => Sys2Proof.Machine.execLslDy cnt ss ir dy s
  | .roxrDy cnt ss ir dy => Sys2Proof.Machine.execRoxrDy cnt ss ir dy s
  | .roxlDy cnt ss ir dy => Sys2Proof.Machine.execRoxlDy cnt ss ir dy s
  | .rorDy cnt ss ir dy => Sys2Proof.Machine.execRorDy cnt ss ir dy s
  | .rolDy cnt ss ir dy => Sys2Proof.Machine.execRolDy cnt ss ir dy s
  -- group 1111
  | .fmovecr dst off => Sys2Proof.Machine.execFmovecr dst off s
  | .fmove ea rm src dst => Sys2Proof.Machine.execFmove ea rm src dst s
  | .fint ea rm src dst => Sys2Proof.Machine.execFint ea rm src dst s
  | .fsinh ea rm src dst => Sys2Proof.Machine.execFsinh ea rm src dst s
  | .fintrz ea rm src dst => Sys2Proof.Machine.execFintrz ea rm src dst s
  | .fsqrt ea rm src dst => Sys2Proof.Machine.execFsqrt ea rm src dst s
  | .flognp1 ea rm src dst => Sys2Proof.Machine.execFlognp1 ea rm src dst s
  | .fetoxm1 ea rm src dst => Sys2Proof.Machine.execFetoxm1 ea rm src dst s
  | .ftanh ea rm src dst => Sys2Proof.Machine.execFtanh ea rm src dst s
  | .fatan ea rm src dst => Sys2Proof.Machine.execFatan ea rm src dst s
  | .fasin ea rm src dst => Sys2Proof.Machine.execFasin ea rm src dst s
  | .fatanh ea rm src dst => Sys2Proof.Machine.execFatanh ea rm src dst s
  | .fsin ea rm src dst => Sys2Proof.Machine.execFsin ea rm src dst s
  | .ftan ea rm src dst => Sys2Proof.Machine.execFtan ea rm src dst s
  | .fetox ea rm src dst => Sys2Proof.Machine.execFetox ea rm src dst s
  | .ftwotox ea rm src dst => Sys2Proof.Machine.execFtwotox ea rm src dst s
  | .ftentox ea rm src dst => Sys2Proof.Machine.execFtentox ea rm src dst s
  | .flogn ea rm src dst => Sys2Proof.Machine.execFlogn ea rm src dst s
  | .flog10 ea rm src dst => Sys2Proof.Machine.execFlog10 ea rm src dst s
  | .flog2 ea rm src dst => Sys2Proof.Machine.execFlog2 ea rm src dst s
  | .fabs ea rm src dst => Sys2Proof.Machine.execFabs ea rm src dst s
  | .fcosh ea rm src dst => Sys2Proof.Machine.execFcosh ea rm src dst s
  | .fneg ea rm src dst => Sys2Proof.Machine.execFneg ea rm src dst s
  | .facos ea rm src dst => Sys2Proof.Machine.execFacos ea rm src dst s
  | .fcos ea rm src dst => Sys2Proof.Machine.execFcos ea rm src dst s
  | .fgetexp ea rm src dst => Sys2Proof.Machine.execFgetexp ea rm src dst s
  | .fgetman ea rm src dst => Sys2Proof.Machine.execFgetman ea rm src dst s
  | .fdiv ea rm src dst => Sys2Proof.Machine.execFdiv ea rm src dst s
  | .fmod ea rm src dst => Sys2Proof.Machine.execFmod ea rm src dst s
  | .fadd ea rm src dst => Sys2Proof.Machine.execFadd ea rm src dst s
  | .fmul ea rm src dst => Sys2Proof.Machine.execFmul ea rm src dst s
  | .fsgldiv ea rm src dst => Sys2Proof.Machine.execFsgldiv ea rm src dst s
  | .frem ea rm src dst => Sys2Proof.Machine.execFrem ea rm src dst s
  | .fscale ea rm src dst => Sys2Proof.Machine.execFscale ea rm src dst s
  | .fsglmul ea rm src dst => Sys2Proof.Machine.execFsglmul ea rm src dst s
  | .fsub ea rm src dst => Sys2Proof.Machine.execFsub ea rm src dst s
  | .fsincos ea rm src fps fpc => Sys2Proof.Machine.execFsincos ea rm src fps fpc s
  | .fcmp ea rm src dst => Sys2Proof.Machine.execFcmp ea rm src dst s
  | .ftst ea rm src => Sys2Proof.Machine.execFtst ea rm src s
  | .fsmove ea rm src dst => Sys2Proof.Machine.execFsmove ea rm src dst s
  | .fssqrt ea rm src dst => Sys2Proof.Machine.execFssqrt ea rm src dst s
  | .fdmove ea rm src dst => Sys2Proof.Machine.execFdmove ea rm src dst s
  | .fdsqrt ea rm src dst => Sys2Proof.Machine.execFdsqrt ea rm src dst s
  | .fsabs ea rm src dst => Sys2Proof.Machine.execFsabs ea rm src dst s
  | .fsneg ea rm src dst => Sys2Proof.Machine.execFsneg ea rm src dst s
  | .fdabs ea rm src dst => Sys2Proof.Machine.execFdabs ea rm src dst s
  | .fdneg ea rm src dst => Sys2Proof.Machine.execFdneg ea rm src dst s
  | .fsdiv ea rm src dst => Sys2Proof.Machine.execFsdiv ea rm src dst s
  | .fsadd ea rm src dst => Sys2Proof.Machine.execFsadd ea rm src dst s
  | .fsmul ea rm src dst => Sys2Proof.Machine.execFsmul ea rm src dst s
  | .fddiv ea rm src dst => Sys2Proof.Machine.execFddiv ea rm src dst s
  | .fdadd ea rm src dst => Sys2Proof.Machine.execFdadd ea rm src dst s
  | .fdmul ea rm src dst => Sys2Proof.Machine.execFdmul ea rm src dst s
  | .fssub ea rm src dst => Sys2Proof.Machine.execFssub ea rm src dst s
  | .fdsub ea rm src dst => Sys2Proof.Machine.execFdsub ea rm src dst s
  | .fmoveToEa ea fmt fpm k => Sys2Proof.Machine.execFmoveToEa ea fmt fpm k s
  | .fmoveToFpcr ea => Sys2Proof.Machine.execFmoveToFpcr ea s
  | .fmoveToFpsr ea => Sys2Proof.Machine.execFmoveToFpsr ea s
  | .fmoveToFpiar ea => Sys2Proof.Machine.execFmoveToFpiar ea s
  | .fmoveFromFpcr ea => Sys2Proof.Machine.execFmoveFromFpcr ea s
  | .fmoveFromFpsr ea => Sys2Proof.Machine.execFmoveFromFpsr ea s
  | .fmoveFromFpiar ea => Sys2Proof.Machine.execFmoveFromFpiar ea s
  | .fmovemToCtl ea list => Sys2Proof.Machine.execFmovemToCtl ea list s
  | .fmovemFromCtl ea list => Sys2Proof.Machine.execFmovemFromCtl ea list s
  | .fmovemToFp ea mode list => Sys2Proof.Machine.execFmovemToFp ea mode list s
  | .fmovemFromFp ea mode list => Sys2Proof.Machine.execFmovemFromFp ea mode list s
  | .fdbcc dn => Sys2Proof.Machine.execFdbcc dn s
  | .ftrapccW => Sys2Proof.Machine.execFtrapccW s
  | .ftrapccL => Sys2Proof.Machine.execFtrapccL s
  | .ftrapcc => Sys2Proof.Machine.execFtrapcc s
  | .fscc ea => Sys2Proof.Machine.execFscc ea s
  | .fnop => Sys2Proof.Machine.execFnop s
  | .fbccW cond => Sys2Proof.Machine.execFbccW cond s
  | .fbccL cond => Sys2Proof.Machine.execFbccL cond s
  | .fsave ea => Sys2Proof.Machine.execFsave ea s
  | .frestore ea => Sys2Proof.Machine.execFrestore ea s

end Sys2Proof.Machine
end

