-- ==== Sys2Proof/Machine/Fetch.lean ====
section
/-! DEFINITION. The decode call: the fresh cursor, the pull of the opcode word, the dispatcher's scan with its peek,
and the row taken (30_encoding.md R42, 70_reset_and_hazards.md R311). -/
namespace Sys2Proof.Machine

/-- What the dispatcher has before the scan: a fresh cursor (70_reset_and_hazards.md R311) and the opcode word pulled
from it (30_encoding.md R39). -/
def fetchOpcode (s : State) : Word × State := pull16 (freshCursor s)

/-- The state after the scan's peek: where the first row whose first-word test holds has a guard, the word after `w1`
was peeked at, and a missing one recorded `OutOfSpace` (30_encoding.md R42, 20_memory.md R27). -/
def scanState (w1 : Word) (s : State) : State := if peeksSecond w1 then (peekWord 0 s).2 else s

/-- `Decode(buf)`: one decode call (30_encoding.md R42). The row taken runs its builder; where no row is taken
`NotImplemented` is recorded after the scan and the call ends with the first error (R46, 60_exceptions.md R301). -/
def decodeStep (s : State) : StepResult :=
  let f := fetchOpcode s
  let t := scanState f.1 f.2
  match decodeWords f.1 (peekWord 0 f.2).1 with
  | some i => exec i t
  | none => raiseError .notImplemented t

/-- The state whose buffer holds an instruction of `nbits` bits `w` at offset 0, where the next step fetches its
opcode word (log entry 3). -/
def loadTableWord (s : State) (nbits w : Nat) : State := { s with buf := Memory.ofBytes (tableBytes nbits w) }

end Sys2Proof.Machine
end

