-- ==== Sys2Proof/Machine/Step.lean ====
section
/-! DEFINITION. The step: one decode call, one atomic transaction (00_scope.md R2). -/
namespace Sys2Proof.Machine

/-- One step is one decode call on the buffer (00_scope.md R2, 30_encoding.md R42). -/
def step (s : State) : Host.Outcome State Fault Refusal := decodeStep s

/-- The state with an instruction of the opcode table, `nbits` bits `w`, placed where `step` fetches its next
instruction: offset 0 of the buffer. It stands for a caller that supplies that buffer (log entry 3). -/
def State.withFetchWord (s : State) (nbits w : Nat) : State := loadTableWord s nbits w

end Sys2Proof.Machine
end

