-- ==== Sys2Proof/Machine/Reads.lean ====
section
/-! DEFINITION. The reads of each form, in the order its rule lists them (30_encoding.md R39): the words after the
opcode word, then the words of each effective address under its size hint. A statement about the errors that a builder
meets is made over this list; the builders themselves do not use it. -/
namespace Sys2Proof.Machine

/-- One read of a builder (30_encoding.md R39). -/
inductive Read where
  /-- `Pull16()`, one word. -/
  | word
  /-- `Pull32()`, two words. -/
  | long
  /-- `SkipWords(1)`, a word that is consumed and not read. -/
  | skip
  /-- `ReadImm(size)`. -/
  | imm (size : Nat)
  /-- `EA(reg, mode, hint)`. -/
  | ea (f : EaField) (hint : Nat)
deriving DecidableEq, Repr

/-- The cursor after one read. -/
def runRead : Read → State → State
  | .word, s => (pull16 s).2
  | .long, s => (pull32 s).2
  | .skip, s => skipWords 1 s
  | .imm n, s => (readImm n s).2
  | .ea f n, s => (resolveEa f n s).2

/-- The cursor after some reads, in order. -/
def runReads : List Read → State → State
  | [], s => s
  | r :: rs, s => runReads rs (runRead r s)

/-- The reads of a form with a size field: none where its code names no size (30_encoding.md R73). -/
def sizedReads (size : Option Nat) (f : Nat → List Read) : List Read :=
  match size with
  | none => []
  | some n => f n

/-- The reads of a branch by its 8-bit field (44_group6_7.md R171). -/
def branchReads (disp : Byte) : List Read := if disp = 0x00 then [.word] else if disp = 0xFF then [.long] else []

/-- The reads of an FPU general operation: the command word, then the address of a memory source under the size of its
format (47_fpu_ops.md R226). Source code 111 ends the call after the command word (30_encoding.md R69). -/
def fpReads (ea : EaField) (rm : Bool) (src : BitVec 3) : List Read :=
  if rm then
    match fmtIn src with
    | none => [.word]
    | some f => [.word, .ea ea (formatSize f)]
  else [.word]

/-- The reads of each form, after its opcode word. -/
def readsOf : Instr → List Read
  | .oriToCcr => [.imm 1]
  | .oriToSr => [.imm 2]
  | .andiToCcr => [.imm 1]
  | .andiToSr => [.imm 2]
  | .eoriToCcr => [.imm 1]
  | .eoriToSr => [.imm 2]
  | .movep _ _ _ _ => [.word]
  | .btstDn _ ea => [.ea ea (bitOpSize ea)]
  | .bchgDn _ ea => [.ea ea (bitOpSize ea)]
  | .bclrDn _ ea => [.ea ea (bitOpSize ea)]
  | .bsetDn _ ea => [.ea ea (bitOpSize ea)]
  | .btstImm ea => [.word, .ea ea (bitOpSize ea)]
  | .bchgImm ea => [.word, .ea ea (bitOpSize ea)]
  | .bclrImm ea => [.word, .ea ea (bitOpSize ea)]
  | .bsetImm ea => [.word, .ea ea (bitOpSize ea)]
  | .rtm _ => []
  | .callm ea => [.word, .ea ea 0]
  | .cmp2 ss ea _ => sizedReads (sizeCmp2 ss) fun n => [.word, .ea ea n]
  | .chk2 ss ea _ => sizedReads (sizeCmp2 ss) fun n => [.word, .ea ea n]
  | .cas2 _ => []
  | .casB ea => [.word, .ea ea 1]
  | .casW ea => [.word, .ea ea 2]
  | .casL ea => [.word, .ea ea 4]
  | .ori ss ea => sizedReads (sizeStd ss) fun n => [.imm n, .ea ea n]
  | .andi ss ea => sizedReads (sizeStd ss) fun n => [.imm n, .ea ea n]
  | .subi ss ea => sizedReads (sizeStd ss) fun n => [.imm n, .ea ea n]
  | .addi ss ea => sizedReads (sizeStd ss) fun n => [.imm n, .ea ea n]
  | .eori ss ea => sizedReads (sizeStd ss) fun n => [.imm n, .ea ea n]
  | .cmpi ss ea => sizedReads (sizeStd ss) fun n => [.imm n, .ea ea n]
  | .moves ss ea => sizedReads (sizeStd ss) fun n => [.word, .ea ea n]
  | .moveB src dst => [.ea src 1, .ea dst 1]
  | .moveaL _ ea => [.ea ea 4]
  | .moveL src dst => [.ea src 4, .ea dst 4]
  | .moveaW _ ea => [.ea ea 2]
  | .moveW src dst => [.ea src 2, .ea dst 2]
  | .illegal => []
  | .bgnd => []
  | .reset => []
  | .nop => []
  | .stop => [.word]
  | .rte => []
  | .rtd => [.word]
  | .rts => []
  | .trapv => []
  | .rtr => []
  | .movecFrom => [.word]
  | .movecTo => [.word]
  | .trap _ => []
  | .linkW _ => [.word]
  | .unlk _ => []
  | .moveToUsp _ => []
  | .moveFromUsp _ => []
  | .jsr ea => [.ea ea 0]
  | .jmp ea => [.ea ea 0]
  | .linkL _ => [.long]
  | .nbcd ea => [.ea ea 1]
  | .swap _ => []
  | .bkpt _ => []
  | .pea ea => [.ea ea 4]
  | .extW _ => []
  | .extL _ => []
  | .extbL _ => []
  | .movemStore long ea => [.word, .ea ea (sizeWL long)]
  | .movemLoad long ea => [.word, .ea ea (sizeWL long)]
  | .moveFromSr ea => [.ea ea 2]
  | .moveFromCcr ea => [.ea ea 2]
  | .moveToCcr ea => [.ea ea 2]
  | .moveToSr ea => [.ea ea 2]
  | .negx ss ea => sizedReads (sizeStd ss) fun n => [.ea ea n]
  | .clr ss ea => sizedReads (sizeStd ss) fun n => [.ea ea n]
  | .neg ss ea => sizedReads (sizeStd ss) fun n => [.ea ea n]
  | .not ss ea => sizedReads (sizeStd ss) fun n => [.ea ea n]
  | .tas ea => [.ea ea 1]
  | .tst ss ea => sizedReads (sizeStd ss) fun n => [.ea ea n]
  | .muluL ea _ _ _ => [.word, .ea ea 4]
  | .mulsL ea _ _ _ => [.word, .ea ea 4]
  | .divuL64 ea _ _ => [.word, .ea ea 4]
  | .divuL32 ea _ _ => [.word, .ea ea 4]
  | .divsL64 ea _ _ => [.word, .ea ea 4]
  | .divsL32 ea _ _ => [.word, .ea ea 4]
  | .chkL _ ea => [.ea ea 4]
  | .chkW _ ea => [.ea ea 2]
  | .lea _ ea => [.ea ea 4]
  | .dbcc _ _ => [.word]
  | .trapccW _ => [.word]
  | .trapccL _ => [.long]
  | .trapcc _ => []
  | .scc _ ea => [.ea ea 1]
  | .addq _ ss ea => sizedReads (sizeStd ss) fun n => [.ea ea n]
  | .subq _ ss ea => sizedReads (sizeStd ss) fun n => [.ea ea n]
  | .bra disp => branchReads disp
  | .bsr disp => branchReads disp
  | .bcc _ disp => branchReads disp
  | .moveq _ _ => []
  | .divuW _ ea => [.ea ea 2]
  | .divsW _ ea => [.ea ea 2]
  | .sbcd _ _ _ => []
  | .pack _ _ _ => [.word]
  | .unpk _ _ _ => [.word]
  | .or _ _ ss ea => sizedReads (sizeStd ss) fun n => [.ea ea n]
  | .suba _ long ea => [.ea ea (sizeWL long)]
  | .subx _ _ _ _ => []
  | .sub _ _ ss ea => sizedReads (sizeStd ss) fun n => [.ea ea n]
  | .cmpa _ long ea => [.ea ea (sizeWL long)]
  | .cmpm _ _ _ => []
  | .cmp _ ss ea => sizedReads (sizeStd ss) fun n => [.ea ea n]
  | .eor _ ss ea => sizedReads (sizeStd ss) fun n => [.ea ea n]
  | .muluW _ ea => [.ea ea 2]
  | .mulsW _ ea => [.ea ea 2]
  | .abcd _ _ _ => []
  | .exgDD _ _ => []
  | .exgAA _ _ => []
  | .exgDA _ _ => []
  | .and _ _ ss ea => sizedReads (sizeStd ss) fun n => [.ea ea n]
  | .adda _ long ea => [.ea ea (sizeWL long)]
  | .addx _ _ _ _ => []
  | .add _ _ ss ea => sizedReads (sizeStd ss) fun n => [.ea ea n]
  | .bftst ea => [.word, .ea ea 0]
  | .bfextu ea => [.word, .ea ea 0]
  | .bfchg ea => [.word, .ea ea 0]
  | .bfexts ea => [.word, .ea ea 0]
  | .bfclr ea => [.word, .ea ea 0]
  | .bfffo ea => [.word, .ea ea 0]
  | .bfset ea => [.word, .ea ea 0]
  | .bfins ea => [.word, .ea ea 0]
  | .asrEa ea => [.ea ea 2]
  | .aslEa ea => [.ea ea 2]
  | .lsrEa ea => [.ea ea 2]
  | .lslEa ea => [.ea ea 2]
  | .roxrEa ea => [.ea ea 2]
  | .roxlEa ea => [.ea ea 2]
  | .rorEa ea => [.ea ea 2]
  | .rolEa ea => [.ea ea 2]
  | .asrDy _ _ _ _ => []
  | .aslDy _ _ _ _ => []
  | .lsrDy _ _ _ _ => []
  | .lslDy _ _ _ _ => []
  | .roxrDy _ _ _ _ => []
  | .roxlDy _ _ _ _ => []
  | .rorDy _ _ _ _ => []
  | .rolDy _ _ _ _ => []
  | .fmovecr _ _ => [.word]
  | .fmove ea rm src _ => fpReads ea rm src
  | .fint ea rm src _ => fpReads ea rm src
  | .fsinh ea rm src _ => fpReads ea rm src
  | .fintrz ea rm src _ => fpReads ea rm src
  | .fsqrt ea rm src _ => fpReads ea rm src
  | .flognp1 ea rm src _ => fpReads ea rm src
  | .fetoxm1 ea rm src _ => fpReads ea rm src
  | .ftanh ea rm src _ => fpReads ea rm src
  | .fatan ea rm src _ => fpReads ea rm src
  | .fasin ea rm src _ => fpReads ea rm src
  | .fatanh ea rm src _ => fpReads ea rm src
  | .fsin ea rm src _ => fpReads ea rm src
  | .ftan ea rm src _ => fpReads ea rm src
  | .fetox ea rm src _ => fpReads ea rm src
  | .ftwotox ea rm src _ => fpReads ea rm src
  | .ftentox ea rm src _ => fpReads ea rm src
  | .flogn ea rm src _ => fpReads ea rm src
  | .flog10 ea rm src _ => fpReads ea rm src
  | .flog2 ea rm src _ => fpReads ea rm src
  | .fabs ea rm src _ => fpReads ea rm src
  | .fcosh ea rm src _ => fpReads ea rm src
  | .fneg ea rm src _ => fpReads ea rm src
  | .facos ea rm src _ => fpReads ea rm src
  | .fcos ea rm src _ => fpReads ea rm src
  | .fgetexp ea rm src _ => fpReads ea rm src
  | .fgetman ea rm src _ => fpReads ea rm src
  | .fdiv ea rm src _ => fpReads ea rm src
  | .fmod ea rm src _ => fpReads ea rm src
  | .fadd ea rm src _ => fpReads ea rm src
  | .fmul ea rm src _ => fpReads ea rm src
  | .fsgldiv ea rm src _ => fpReads ea rm src
  | .frem ea rm src _ => fpReads ea rm src
  | .fscale ea rm src _ => fpReads ea rm src
  | .fsglmul ea rm src _ => fpReads ea rm src
  | .fsub ea rm src _ => fpReads ea rm src
  | .fsincos ea rm src _ _ => fpReads ea rm src
  | .fcmp ea rm src _ => fpReads ea rm src
  | .ftst ea rm src => fpReads ea rm src
  | .fsmove ea rm src _ => fpReads ea rm src
  | .fssqrt ea rm src _ => fpReads ea rm src
  | .fdmove ea rm src _ => fpReads ea rm src
  | .fdsqrt ea rm src _ => fpReads ea rm src
  | .fsabs ea rm src _ => fpReads ea rm src
  | .fsneg ea rm src _ => fpReads ea rm src
  | .fdabs ea rm src _ => fpReads ea rm src
  | .fdneg ea rm src _ => fpReads ea rm src
  | .fsdiv ea rm src _ => fpReads ea rm src
  | .fsadd ea rm src _ => fpReads ea rm src
  | .fsmul ea rm src _ => fpReads ea rm src
  | .fddiv ea rm src _ => fpReads ea rm src
  | .fdadd ea rm src _ => fpReads ea rm src
  | .fdmul ea rm src _ => fpReads ea rm src
  | .fssub ea rm src _ => fpReads ea rm src
  | .fdsub ea rm src _ => fpReads ea rm src
  | .fmoveToEa ea fmt _ k => [.word, .ea ea (formatSize (fmtOut fmt k))]
  | .fmoveToFpcr ea => [.word, .ea ea 4]
  | .fmoveToFpsr ea => [.word, .ea ea 4]
  | .fmoveToFpiar ea => [.word, .ea ea 4]
  | .fmoveFromFpcr ea => [.word, .ea ea 4]
  | .fmoveFromFpsr ea => [.word, .ea ea 4]
  | .fmoveFromFpiar ea => [.word, .ea ea 4]
  | .fmovemToCtl ea list => if list = 0 then [.word] else [.word, .ea ea (4 * popcount3 list)]
  | .fmovemFromCtl ea list => if list = 0 then [.word] else [.word, .ea ea (4 * popcount3 list)]
  | .fmovemToFp ea _ _ => [.word, .ea ea 10]
  | .fmovemFromFp ea _ _ => [.word, .ea ea 10]
  | .fdbcc _ => [.word, .word]
  | .ftrapccW => [.word, .word]
  | .ftrapccL => [.word, .long]
  | .ftrapcc => [.word]
  | .fscc ea => [.word, .ea ea 1]
  | .fnop => [.skip]
  | .fbccW _ => [.word]
  | .fbccL _ => [.long]
  | .fsave ea => [.ea ea 0]
  | .frestore ea => [.ea ea 0]

end Sys2Proof.Machine
end

