-- ==== Sys2Proof/Machine/Walk.lean ====
section
/-! DEFINITION. A decode call as a function of its bytes (70_reset_and_hazards.md R313), and the caller's loop over a
longer stream with the stream position of a branch target (R315). The loop is outside the block; the spec gives its
meaning. -/
namespace Sys2Proof.Machine

/-- The state of a call on these bytes, before it starts (70_reset_and_hazards.md R311). -/
def stateOf (bytes : List Byte) : State := { State.reset with buf := Memory.ofBytes bytes }

/-- The result of one decode call on these bytes (70_reset_and_hazards.md R313): the result the step leaves. -/
def decodeCall (bytes : List Byte) : Option CallResult :=
  match step (stateOf bytes) with
  | .next t => t.result
  | .fault _ => none
  | .refused _ => none

/-- How a walk ended (70_reset_and_hazards.md R315): past the end of the stream, or stopped at an offset by an error. -/
inductive WalkEnd where
  | finished
  | stopped (off : Nat) (k : ErrorKind)
  /-- The fuel ran out. `walk` gives enough of it, one unit for each byte. -/
  | cut
deriving DecidableEq, Repr

/-- `Walk` from offset `off`, with fuel (70_reset_and_hazards.md R315): the instructions emitted with their offsets,
and how the walk ended. -/
def walkFrom (stream : List Byte) : Nat → Nat → List (Nat × Instruction) × WalkEnd
  | 0, off => ([], if off < stream.length then .cut else .finished)
  | n + 1, off =>
    if off < stream.length then
      match decodeCall (stream.drop off) with
      | some (.ok d) =>
        let rest := walkFrom stream n (off + d.bytesUsed)
        ((off, d.instruction) :: rest.1, rest.2)
      | some (.err k) => ([], .stopped off k)
      | none => ([], .cut)
    else ([], .finished)

/-- `Walk(stream, start)` (70_reset_and_hazards.md R315). -/
def walk (stream : List Byte) (start : Nat) : List (Nat × Instruction) × WalkEnd :=
  walkFrom stream stream.length start

/-- The stream position of a branch-target operand of a call that started at `offCall`
(70_reset_and_hazards.md R315): `off_call + off + d.baseDisplacement`. -/
def targetPosition (offCall : Nat) (o : Operand) : Option Int :=
  match o with
  | .pcDisp off d => some (offCall + off + d.base.toInt)
  | _ => none

end Sys2Proof.Machine
end

