-- ==== Sys2Proof/Safety.lean ====
section
/-! DEFINITION. What counts as a safe run of the decoder, in the terms the statements use: the shape of a result
(10_state.md R20, R23, 60_exceptions.md R302) and the invariant every step keeps. -/
namespace Sys2Proof.Machine

/-- The sizes an instruction may have (10_state.md R20). -/
def legalSizes : List Nat := [0, 1, 2, 4, 8, 10, 12]

/-- A bitfield value is in range: a static value is 1..32 (10_state.md R17). -/
def BitfieldData.inRange : BitfieldData → Bool
  | .static v => decide (1 ≤ v ∧ v ≤ 32)
  | .dynamic _ => true

/-- The extra of an instruction is in range: the two parts of a bitfield are (10_state.md R17, R19). -/
def Extra.inRange : Extra → Bool
  | .bitfield o w => o.inRange && w.inRange
  | _ => true

/-- A result fits the cursor it came from (10_state.md R23): on `Ok` no error is recorded, the length is the final
position, even, at most `L` and at most 22 bytes, and the size is a legal one; on `Err` the kind is the recorded
error. -/
def State.resultFits (s : State) : Bool :=
  match s.result with
  | none => true
  | some (.err k) => s.err == some k
  | some (.ok d) =>
    s.err.isNone && d.bytesUsed == s.pos && d.bytesUsed % 2 == 0 && decide (2 ≤ d.bytesUsed) &&
      decide (d.bytesUsed ≤ s.len) && decide (d.bytesUsed ≤ Config.maxBytes) &&
      legalSizes.contains d.instruction.size &&
      (match d.instruction.extra with
        | some x => x.inRange
        | none => true)

/-- The invariant of the block: the buffer is canonical (20_memory.md R24), the position is even (10_state.md R7), and
the result fits the cursor (R23). -/
def State.inv (s : State) : Bool := s.buf.wf && s.pos % 2 == 0 && s.resultFits

/-! The ends of a call, in the terms the statements use. -/

/-- The word `k` words ahead of the position, if it fits in the buffer (20_memory.md R27). -/
def State.wordAhead (s : State) (k : Nat) : Option Word := s.buf.word? (s.pos + 2 * k)

/-- The call ended with `Ok`: cursor `t`, its position the length, and this instruction (10_state.md R20, R22). -/
def accepted (op : Operation) (size : Nat) (o0 o1 : Option Operand) (x : Option Extra) (t : State) : StepResult :=
  .next { t with result := some (.ok ⟨t.pos, ⟨size, op, o0, o1, x⟩⟩) }

/-- The call ended with `Err` of an error that no earlier one precedes (60_exceptions.md R299, R302). -/
def failed (k : ErrorKind) (t : State) : StepResult :=
  .next { t with err := some k, result := some (.err k) }

/-- What an FPU general operation answers (47_fpu_ops.md R226): `i rm` is the instruction with its R/M bit. A register
source has size 10 and no extra; a source of format `f` has the size of `f`, which is also the hint its address
resolves under, and the format as its extra. -/
def fpuAnswers (i : Bool → Instr) (op : Operation) (dst : Option Operand) (ea : EaField) (src : BitVec 3)
    (s : State) : Prop :=
  exec (i false) s = accepted op 10 (some (.fr src)) dst none (skipWords 1 s) ∧
    ∀ (f : FPFormat) (o : Operand) (t : State), fmtIn src = some f →
      resolveEa ea (formatSize f) (skipWords 1 s) = (o, t) → t.err = none →
      exec (i true) s = accepted op (formatSize f) (some o) dst (some (.fpFormat f)) t

/-- The first words that no row of any group takes, whatever follows (42_group4.md R113, 44_group6_7.md R170,
45_arith_logic.md R175, 47_fpu_ops.md R223). -/
def unassignedFirst (w1 : Word) : Bool :=
  (w1 &&& 0xF1C0 == 0x4140) || (decide (0x4E00 ≤ w1) && decide (w1 ≤ 0x4E3F)) || w1 == 0x4E78 || w1 == 0x4E79 ||
    (decide (0x4E7C ≤ w1) && decide (w1 ≤ 0x4E7F)) || (w1 &&& 0xF100 == 0x7100) || (w1 &&& 0xF000 == 0xA000) ||
    (decide (0xF000 ≤ w1) && decide (w1 ≤ 0xF1FF)) || decide (0xF380 ≤ w1)

/-- The opmodes of the FPU general operations that are unassigned, as the spec lists them (47_fpu_ops.md R224). -/
def unassignedOpmode (m : BitVec 7) : Bool :=
  [0x05, 0x07, 0x0B, 0x13, 0x17, 0x1B, 0x39, 0x42, 0x43, 0x59, 0x5B, 0x5D, 0x5F, 0x61, 0x65].contains m.toNat ||
    (decide (0x29 ≤ m) && decide (m ≤ 0x2F)) || (decide (0x3B ≤ m) && decide (m ≤ 0x3F)) ||
    (decide (0x46 ≤ m) && decide (m ≤ 0x57)) || (decide (0x69 ≤ m) && decide (m ≤ 0x6B)) || decide (0x6D ≤ m)

/-- The command words that no row takes after a type-000 line-F word (47_fpu_ops.md R224): class 001, and classes 000
and 010 with an unassigned opmode. FMOVECR's command words, taken after `0xF200` alone, are left out. -/
def unassignedCommand (w1 w2 : Word) : Bool :=
  decide (0xF200 ≤ w1) && decide (w1 ≤ 0xF23F) &&
    (field w2 13 3 == 1 || ((field w2 13 3 == 0 || field w2 13 3 == 2) && unassignedOpmode (field w2 0 7))) &&
    !(w1 == 0xF200 && field w2 10 6 == 0x17)

end Sys2Proof.Machine
end

