-- ==== Sys2Proof/Certificates/Slice0/Obligations.lean ====
section
/-! DEFINITION. The statements about the decoder, for the provers. Each docstring says what the statement formalises. -/
section
open Sys2Proof Sys2Proof.Machine

/-- O1, tier 1. State.reset has pos 0 and err NONE, the values R311 gives for the start of every call. That the
buffer is empty (log entry 1) and that no result is held (log entry 2) is the model's choice, DESIGN CHOICE, not the
spec's. (Rests on R311.) -/
def Obligations.ResetIsTheStartOfACall : Prop :=
  State.reset.pos = 0 ∧ State.reset.err = none ∧ State.reset.buf = [] ∧ State.reset.len = 0 ∧
  State.reset.result = none

/-- O2, tier 1. The first thing a call does is pull the opcode word from a fresh cursor: buf and L are the caller's,
pos is 0 and err is NONE, whatever the state held before. (Formalises R311.) -/
def Obligations.FreshCursor : Prop :=
  ∀ s : State, fetchOpcode s = pull16 (freshCursor s) ∧ (freshCursor s).buf = s.buf ∧
  (freshCursor s).len = s.len ∧ (freshCursor s).pos = 0 ∧ (freshCursor s).err = none

/-- O3, tier 1. RecordError(K) sets err to K if err is NONE, and changes nothing otherwise. (Rests on R6
(10_state.md section 1).) -/
def Obligations.FirstErrorStays : Prop :=
  ∀ (k : ErrorKind) (s : State),
  (s.err = none → recordError k s = { s with err := some k }) ∧
  (∀ e, s.err = some e → recordError k s = s)

/-- O4, tier 2. On a canonical buffer, PeekWord(k) at off = pos + 2k: where off + 2 <= L it answers the byte at off
as the high and the byte at off + 1 as the low half and changes nothing; where off + 2 > L it answers 0 and records
OutOfSpace. (Formalises R26, R27.) -/
def Obligations.PeekReadsTheBigEndianWord : Prop :=
  ∀ (k : Nat) (s : State), s.buf.wf = true →
  (s.pos + 2 * k + 2 ≤ s.len → ∃ hi lo, s.buf.byte? (s.pos + 2 * k) = some hi ∧
    s.buf.byte? (s.pos + 2 * k + 1) = some lo ∧ peekWord k s = (hi ++ lo, s)) ∧
  (s.len < s.pos + 2 * k + 2 → peekWord k s = (0, recordError .outOfSpace s))

/-- O5, tier 1. Pull16 answers PeekWord(0) and moves pos by 2 whether or not the word is there; Pull32 is two pulls,
the first the high half; SkipWords(n) moves pos by 2n and changes nothing else. (Formalises R28, R29.) -/
def Obligations.PullConsumes : Prop :=
  ∀ s : State,
  pull16 s = ((peekWord 0 s).1, skipWords 1 (peekWord 0 s).2) ∧
  (pull16 s).2.pos = s.pos + 2 ∧ (pull16 s).2.buf = s.buf ∧
  pull32 s = ((pull16 s).1 ++ (pull16 (pull16 s).2).1, (pull16 (pull16 s).2).2) ∧
  (pull32 s).2.pos = s.pos + 4 ∧ (pull32 s).2.buf = s.buf ∧
  (∀ n, skipWords n s = { s with pos := s.pos + 2 * n })

/-- O6, tier 1. Raising K answers a next state in which err is the first error of the call (the one held before,
else K), the result is Err of it, and the buffer and the position are as before. No mode, stack, vector or handler
is touched: the block has none (R305). (Formalises R299.) -/
def Obligations.RaiseEndsTheCall : Prop :=
  ∀ (k : ErrorKind) (s : State), ∃ t, raiseError k s = .next t ∧ t.err = some (s.err.getD k) ∧
  t.result = some (.err (s.err.getD k)) ∧ t.buf = s.buf ∧ t.pos = s.pos

/-- O7, tier 1. emit answers a next state whose result is Err(err) if err is recorded and otherwise Ok with
bytesUsed = pos and the record that emit names; buffer, position and error stay. (Formalises R44.) -/
def Obligations.EmitEndsTheCall : Prop :=
  ∀ (op : Operation) (size : Nat) (o0 o1 : Option Operand) (x : Option Extra) (s : State),
  (∀ k, s.err = some k → emit op size o0 o1 x s = .next { s with result := some (.err k) }) ∧
  (s.err = none → emit op size o0 o1 x s =
    .next { s with result := some (.ok ⟨s.pos, ⟨size, op, o0, o1, x⟩⟩) })

/-- O8, tier 1. EA(reg, mode, size) for modes 0, 1, 2, 3, 4 gives DR, AR, ARIND, ARINC, ARDEC of the register, for
every size hint, and leaves the cursor as it is. (Formalises R47.) -/
def Obligations.ResolverRegisterModes : Prop :=
  ∀ (r : RegNum) (size : Nat) (s : State),
  resolveEa ⟨0, r⟩ size s = (.dr r, s) ∧ resolveEa ⟨1, r⟩ size s = (.ar r, s) ∧
  resolveEa ⟨2, r⟩ size s = (.arInd r, s) ∧ resolveEa ⟨3, r⟩ size s = (.arInc r, s) ∧
  resolveEa ⟨4, r⟩ size s = (.arDec r, s)

/-- O9, tier 1. Mode 5 gives ARDISP of the register and mode 7 register 2 gives PCDISP at the displacement word's
own offset, each with base displacement sext_16 of one pulled word, no outer displacement, no index and no
indirection. Mode 7 register 0 gives ABS16 of one pulled word, mode 7 register 1 gives ABS32 of one pulled long
word. (Formalises R48, R50, R51, R52.) -/
def Obligations.ResolverWordModes : Prop :=
  ∀ (r : RegNum) (size : Nat) (s : State),
  resolveEa ⟨5, r⟩ size s = (.arDisp r ⟨(pull16 s).1.signExtend 32, 0, none, none⟩, (pull16 s).2) ∧
  resolveEa ⟨7, 2⟩ size s = (.pcDisp s.pos ⟨(pull16 s).1.signExtend 32, 0, none, none⟩, (pull16 s).2) ∧
  resolveEa ⟨7, 0⟩ size s = (.abs16 (pull16 s).1, (pull16 s).2) ∧
  resolveEa ⟨7, 1⟩ size s = (.abs32 (pull32 s).1, (pull32 s).2)

/-- O10, tier 1. Mode 6 and mode 7 register 3 read one extended address by ExtWord; where it suppresses the base the
operand is DISP, else ARDISP of the register, or PCDISP at the offset of the extension word. Mode 7/3's offset is
the position before the extension word. (Formalises R49, R53.) -/
def Obligations.ResolverExtendedModes : Prop :=
  ∀ (r : RegNum) (size : Nat) (s : State),
  resolveEa ⟨6, r⟩ size s =
    (if (extWord s).1.1 = true then .disp (extWord s).1.2 else .arDisp r (extWord s).1.2, (extWord s).2) ∧
  resolveEa ⟨7, 3⟩ size s =
    (if (extWord s).1.1 = true then .disp (extWord s).1.2 else .pcDisp s.pos (extWord s).1.2, (extWord s).2)

/-- O11, tier 1. Mode 7 register 4 is ReadImm of the size hint: size 1 keeps the low byte of one pulled word, size 2
is one word, size 4 a long word; every other size records BadSize, reads no word and gives IMPLIED. (Formalises R54,
R56.) -/
def Obligations.ImmediateOperands : Prop :=
  ∀ (size : Nat) (s : State), resolveEa ⟨7, 4⟩ size s = readImm size s ∧
  readImm 1 s = (.imm8 ((pull16 s).1.setWidth 8), (pull16 s).2) ∧
  readImm 2 s = (.imm16 (pull16 s).1, (pull16 s).2) ∧
  readImm 4 s = (.imm32 (pull32 s).1, (pull32 s).2) ∧
  (size ≠ 1 → size ≠ 2 → size ≠ 4 → readImm size s = (.implied, recordError .badSize s))

/-- O12, tier 1. Mode 7 with register 5, 6 or 7 reads no word, records BadRegister and gives the placeholder
IMPLIED, for every size hint. (Formalises R55.) -/
def Obligations.IllegalRegisterEncodings : Prop :=
  ∀ (r : RegNum) (size : Nat) (s : State), 5 ≤ r.toNat →
  resolveEa ⟨7, r⟩ size s = (.implied, recordError .badRegister s)

/-- O13, tier 1. Where the next word is the brief word of an index x and a displacement byte b, ExtWord gives base
not suppressed, base displacement sext_8(b), index x, no outer displacement and no indirection, and consumes that
word. The W/L bit (bit 11) changes nothing. (Rests on R57, R58, R64 (brief format).) -/
def Obligations.BriefExtensionWord : Prop :=
  ∀ (x : Indexer) (b : Byte) (wl : Word) (s : State), (wl = 0 ∨ wl = 0x0800) →
  s.wordAhead 0 = some (briefExt x b ||| wl) →
  extWord s = ((false, ⟨b.signExtend 32, 0, some x, none⟩), skipWords 1 s)

/-- O14, tier 2. For every displacement record a full-format extension word can give, and every base-suppress flag:
if the words ahead are those the encoder writes for it (long displacements), ExtWord answers that flag and that
record and consumes exactly those words. (Rests on R59, R60, R61, R62, 30_encoding.md section 5.) -/
def Obligations.FullExtensionWordRoundTrip : Prop :=
  ∀ (bs : Bool) (d : Displacement) (s : State), d.wf = true →
  (∀ k w, (fullExt bs d)[k]? = some w → s.wordAhead k = some w) →
  extWord s = ((bs, d), skipWords (fullExt bs d).length s)

/-- O15, tier 1. BD SIZE 00 records Reserved, gives 0 and reads no word; 01 gives 0 and reads no word; 10 gives
sext_16 of one pulled word; 11 gives one pulled long word. The base-suppress and index-suppress flags are bits 7 and
6. (Formalises R59.) -/
def Obligations.BaseDisplacementSizes : Prop :=
  ∀ (ext : Word) (s : State),
  (field ext 4 2 = 0 → pullBase ext s = (0, recordError .reserved s)) ∧
  (field ext 4 2 = 1 → pullBase ext s = (0, s)) ∧
  (field ext 4 2 = 2 → pullBase ext s = ((pull16 s).1.signExtend 32, (pull16 s).2)) ∧
  (field ext 4 2 = 3 → pullBase ext s = pull32 s) ∧
  (s.wordAhead 0 = some ext → bitOf ext 8 = true → (extWord s).1.1 = bitOf ext 7 ∧
    ((extWord s).1.2.indexer = none ↔ bitOf ext 6 = true))

/-- O16, tier 1. The indirection and outer-displacement code of each of the sixteen (IS, I/IS) pairs; a reserved
pair records Reserved, gives no indirection and reads no outer word, any other pair reads an outer displacement of
its code. (Formalises R60, R61.) -/
def Obligations.IndirectionCodes : Prop :=
  (List.range 8).map (fun n => indirectionOf false (BitVec.ofNat 3 n)) =
    [some (none, 1), some (some .preIndexed, 1), some (some .preIndexed, 2), some (some .preIndexed, 3), none,
      some (some .postIndexed, 1), some (some .postIndexed, 2), some (some .postIndexed, 3)] ∧
  (List.range 8).map (fun n => indirectionOf true (BitVec.ofNat 3 n)) =
    [some (none, 1), some (some .indirect, 1), some (some .indirect, 2), some (some .indirect, 3),
      none, none, none, none] ∧
  (∀ (ext : Word) (s : State),
    (indirectionOf (bitOf ext 6) (field ext 0 3) = none →
      pullOuter ext s = ((none, 0), recordError .reserved s)) ∧
    (∀ k, indirectionOf (bitOf ext 6) (field ext 0 3) = some (k, 1) → pullOuter ext s = ((k, 0), s)) ∧
    (∀ k, indirectionOf (bitOf ext 6) (field ext 0 3) = some (k, 2) →
      pullOuter ext s = ((k, (pull16 s).1.signExtend 32), (pull16 s).2)) ∧
    (∀ k, indirectionOf (bitOf ext 6) (field ext 0 3) = some (k, 3) →
      pullOuter ext s = ((k, (pull32 s).1), (pull32 s).2)))

/-- O17, tier 1. Quick(0) is 8 and Quick(v) is v for 1..7; the four size functions give the sizes of the table, and
none for the codes it marks none. (Formalises R65.) -/
def Obligations.QuickAndSizeFields : Prop :=
  (∀ v : BitVec 3, (quick v).toNat = if v = 0 then 8 else v.toNat) ∧
  [0, 1, 2, 3].map sizeStd = [some 1, some 2, some 4, none] ∧
  [0, 1, 2, 3].map sizeMove = [none, some 1, some 4, some 2] ∧
  [0, 1, 2, 3].map sizeCas = [none, some 1, some 2, some 4] ∧
  [0, 1, 2, 3].map sizeCmp2 = [some 1, some 2, some 4, none]

/-- O18, tier 1. Cond(v) for v = 0..15 and FCond(v) for v = 0..31 are the tables of the spec in order, and FCond
ignores bit 5 of its field. (Formalises R66, R67.) -/
def Obligations.ConditionTables : Prop :=
  (List.range 16).map (fun n => condOf (BitVec.ofNat 4 n)) =
    [.T, .F, .HI, .LS, .CC, .CS, .NE, .EQ, .VC, .VS, .PL, .MI, .GE, .LT, .GT, .LE] ∧
  (List.range 32).map (fun n => fcondOf (BitVec.ofNat 6 n)) =
    [.F, .EQ, .OGT, .OGE, .OLT, .OLE, .OGL, .OR, .UN, .UEQ, .UGT, .UGE, .ULT, .ULE, .NE, .T,
      .SF, .SEQ, .GT, .GE, .LT, .LE, .GL, .GLE, .NGLE, .NGL, .NLE, .NLT, .NGE, .NGT, .SNE, .ST] ∧
  (∀ v : BitVec 6, fcondOf (v ||| 0x20) = fcondOf v)

/-- O19, tier 1. BF(flag, v) is Dynamic(v & 7) if the flag is set, Static(32) if v is 0, else Static(v); the
extension word gives the offset from bits 11 and 10:6 and the width from bits 5 and 4:0. (Formalises R68.) -/
def Obligations.BitfieldFields : Prop :=
  (∀ v : BitVec 5, bfData true v = .dynamic (v.setWidth 3) ∧
    bfData false v = .static (if v = 0 then 32 else v.toNat)) ∧
  (∀ (r : BitVec 4) (dof dw : Bool) (o w : BitVec 5),
    bfExtra (r ++ BitVec.ofBool dof ++ o ++ BitVec.ofBool dw ++ w) = .bitfield (bfData dof o) (bfData dw w))

/-- O20, tier 1. FmtIn for the codes 0..7 and FmtOut for the codes 0..7 with any k-factor field, with the byte size
of each format; source code 111 has no format, destination codes 011 and 111 carry the signed k-factor and the
k-factor register. (Formalises R18, R70.) -/
def Obligations.FloatFormats : Prop :=
  (List.range 8).map (fun n => fmtIn (BitVec.ofNat 3 n)) =
    [some .long, some .single, some .extended, some (.packedStatic 0), some .word, some .double, some .byte,
      none] ∧
  (∀ k : BitVec 7, (List.range 8).map (fun n => fmtOut (BitVec.ofNat 3 n) k) =
    [.long, .single, .extended, .packedStatic k, .word, .double, .byte, .packedDynamic (k.extractLsb' 4 3)]) ∧
  (∀ (k : BitVec 7) (n : RegNum), [FPFormat.byte, .word, .long, .single, .double, .extended, .packedStatic k,
    .packedDynamic n].map formatSize = [1, 2, 4, 4, 8, 10, 12, 12])

/-- O21, tier 1. Reverse16 moves bit i to bit 15 - i and Reverse8 bit i to bit 7 - i, so each is its own inverse;
the FMOVEM list operand is DR(w2[6:4]) for a dynamic list, the reversed mask for w2[12] = 1 and the mask itself
otherwise, as a 16-bit list. (Rests on R71 (Reverse16), R72.) -/
def Obligations.RegisterListOrder : Prop :=
  (∀ (m : Word) (i : Nat), i < 16 → (reverse16 m).getLsbD i = m.getLsbD (15 - i)) ∧
  (∀ (m : Byte) (i : Nat), i < 8 → (reverse8 m).getLsbD i = m.getLsbD (7 - i)) ∧
  (∀ m : Word, reverse16 (reverse16 m) = m) ∧ (∀ m : Byte, reverse8 (reverse8 m) = m) ∧
  (∀ (mode : BitVec 2) (l : Byte),
    (mode.getLsbD 0 = true → fpList mode l = .dr (l.extractLsb' 4 3)) ∧
    (mode = 2 → fpList mode l = .regList ((reverse8 l).setWidth 16)) ∧
    (mode = 0 → fpList mode l = .regList (l.setWidth 16)))

/-- O22, tier 1. Each of the eight forms without operand or further word answers Ok with its operation, size 0, no
operands and no extra; the cursor and the buffer stay as they are. (Rests on R114, R115, R116, R117, R119, R121,
R122, R123.) -/
def Obligations.FixedFormsComplete : Prop :=
  let t : List (Instr × Operation) := [(.illegal, .ILLEGAL), (.bgnd, .BGND), (.reset, .RESET), (.nop, .NOP), (.rte, .RTE), (.rts, .RTS), (.trapv, .TRAPV),
    (.rtr, .RTR)]
  ∀ p ∈ t, ∀ s : State, s.err = none → exec p.1 s = accepted p.2 0 none none none s

/-- O23, tier 1. RTM, TRAP, BKPT, UNLK, MOVE An,USP, MOVE USP,An, SWAP, EXT.W, EXT.L, EXTB.L, MOVEQ, the three EXG
forms and TRAPcc without operand answer Ok with the operands their rules list; the cursor and the buffer stay as
they are. (Rests on R97, R126, R136, R128, R129, R130, R135, R138 to R140 (42_group4.md), R174, R193, R166.) -/
def Obligations.RegisterFormsComplete : Prop :=
  ∀ s : State, s.err = none →
  (∀ n, exec (.rtm ⟨false, n⟩) s = accepted .RTM 0 (some (.dr n)) none none s ∧
    exec (.rtm ⟨true, n⟩) s = accepted .RTM 0 (some (.ar n)) none none s) ∧
  (∀ v, exec (.trap v) s = accepted .TRAP 0 (some (.imm8 (v.setWidth 8))) none none s) ∧
  (∀ v, exec (.bkpt v) s = accepted .BKPT 0 (some (.imm8 (v.setWidth 8))) none none s) ∧
  (∀ n, exec (.unlk n) s = accepted .UNLK 0 (some (.ar n)) none none s ∧
    exec (.moveToUsp n) s = accepted .MOVETOUSP 4 (some (.ar n)) (some .implied) none s ∧
    exec (.moveFromUsp n) s = accepted .MOVEFROMUSP 4 (some .implied) (some (.ar n)) none s ∧
    exec (.swap n) s = accepted .SWAP 2 (some (.dr n)) none none s ∧
    exec (.extW n) s = accepted .EXT 2 (some (.dr n)) none none s ∧
    exec (.extL n) s = accepted .EXT 4 (some (.dr n)) none none s ∧
    exec (.extbL n) s = accepted .EXTB 4 (some (.dr n)) none none s) ∧
  (∀ n b, exec (.moveq n b) s = accepted .MOVEQ 4 (some (.imm8 b)) (some (.dr n)) none s) ∧
  (∀ x y, exec (.exgDD x y) s = accepted .EXG 4 (some (.dr x)) (some (.dr y)) none s ∧
    exec (.exgAA x y) s = accepted .EXG 4 (some (.ar x)) (some (.ar y)) none s ∧
    exec (.exgDA x y) s = accepted .EXG 4 (some (.dr x)) (some (.ar y)) none s) ∧
  (∀ c, exec (.trapcc c) s = accepted .TRAPCC 0 none none (some (.condCode (condOf c))) s)

/-- O24, tier 1. The immediate forms to CCR (the low byte kept) and SR, STOP, RTD, LINK.W, LINK.L, TRAPcc.W and
TRAPcc.L, with their word or two words present, answer Ok with the immediate as their rules list it and the position
after those words. (Rests on R82 to R87 (40_group0.md), R118, R120, R127, R133, R164, R165.) -/
def Obligations.OneWordFormsComplete : Prop :=
  ∀ (s : State) (w lo : Word), s.err = none → s.wordAhead 0 = some w →
  (∀ p ∈ [(Instr.oriToCcr, Operation.ORITOCCR), (.andiToCcr, .ANDITOCCR), (.eoriToCcr, .EORITOCCR)],
    exec p.1 s = accepted p.2 1 (some (.imm8 (w.setWidth 8))) (some .implied) none (skipWords 1 s)) ∧
  (∀ p ∈ [(Instr.oriToSr, Operation.ORITOSR), (.andiToSr, .ANDITOSR), (.eoriToSr, .EORITOSR)],
    exec p.1 s = accepted p.2 2 (some (.imm16 w)) (some .implied) none (skipWords 1 s)) ∧
  exec .stop s = accepted .STOP 0 (some (.imm16 w)) none none (skipWords 1 s) ∧
  exec .rtd s = accepted .RTD 0 (some (.imm16 w)) none none (skipWords 1 s) ∧
  (∀ n, exec (.linkW n) s = accepted .LINK 2 (some (.ar n)) (some (.imm16 w)) none (skipWords 1 s)) ∧
  (∀ c, exec (.trapccW c) s =
    accepted .TRAPCC 2 (some (.imm16 w)) none (some (.condCode (condOf c))) (skipWords 1 s)) ∧
  (s.wordAhead 1 = some lo →
    (∀ n, exec (.linkL n) s =
      accepted .LINK 4 (some (.ar n)) (some (.imm32 (w ++ lo))) none (skipWords 2 s)) ∧
    (∀ c, exec (.trapccL c) s =
      accepted .TRAPCC 4 (some (.imm32 (w ++ lo))) none (some (.condCode (condOf c))) (skipWords 2 s)))

/-- O25, tier 1. With the extension word D/A, register number n and control-register number v present, MOVEC Rc,Rn
answers CONTROLREG(v) and the register, MOVEC Rn,Rc the same two in the other order, size 4, for every v (no number
is checked). (Rests on R124, R125, R11 (10_state.md).) -/
def Obligations.ControlRegisterMovesComplete : Prop :=
  ∀ (s : State) (a : Bool) (n : RegNum) (v : BitVec 12), s.err = none →
  s.wordAhead 0 = some (BitVec.ofBool a ++ n ++ v) →
  exec .movecFrom s = accepted .MOVEC 4 (some (.controlReg v)) (some (if a then .ar n else .dr n)) none
    (skipWords 1 s) ∧
  exec .movecTo s = accepted .MOVEC 4 (some (if a then .ar n else .dr n)) (some (.controlReg v)) none
    (skipWords 1 s)

/-- O26, tier 1. JSR, JMP, NBCD, PEA, TAS, the eight memory shifts and rotates, FSAVE and FRESTORE, with an
effective address that resolves without an error under the form's size (which is its hint), answer Ok with that
operand in slot 0, slot 1 empty and no extra. (Rests on R131, R132, R134, R137, R151, R207 to R214 (46_group_e.md),
R295, R296.) -/
def Obligations.SingleAddressFormsComplete : Prop :=
  let t : List ((EaField → Instr) × Operation × Nat) := [(.jsr, .JSR, 0), (.jmp, .JMP, 0), (.nbcd, .NBCD, 1), (.pea, .PEA, 4), (.tas, .TAS, 1), (.asrEa, .ASR, 2),
    (.aslEa, .ASL, 2), (.lsrEa, .LSR, 2), (.lslEa, .LSL, 2), (.roxrEa, .ROXR, 2), (.roxlEa, .ROXL, 2),
    (.rorEa, .ROR, 2), (.rolEa, .ROL, 2), (.fsave, .FSAVE, 0), (.frestore, .FRESTORE, 0)]
  ∀ p ∈ t, ∀ (ea : EaField) (s : State), s.err = none → (resolveEa ea p.2.2 s).2.err = none →
    exec (p.1 ea) s =
      accepted p.2.1 p.2.2 (some (resolveEa ea p.2.2 s).1) none none (resolveEa ea p.2.2 s).2

/-- O27, tier 1. For each size code 00, 01, 10 with its size n, and an effective address that resolves without an
error under hint n: Ok with that operand and size n. (Rests on R147, R148, R149, R150, R152.) -/
def Obligations.SizedAddressFormsComplete : Prop :=
  let t : List ((BitVec 2 → EaField → Instr) × Operation) :=
    [(.negx, .NEGX), (.clr, .CLR), (.neg, .NEG), (.not, .NOT), (.tst, .TST)]
  ∀ p ∈ t, ∀ (ss : BitVec 2) (n : Nat) (ea : EaField) (s : State), s.err = none → sizeStd ss = some n →
    (resolveEa ea n s).2.err = none →
    exec (p.1 ss ea) s = accepted p.2 n (some (resolveEa ea n s).1) none none (resolveEa ea n s).2

/-- O28, tier 1. For each size code with its size n: the immediate is read first, the effective address is resolved
from the position after it, and where no error arises the answer is Ok with the immediate in slot 0 and the address
in slot 1. (Rests on R103, R104, R105, R106, R107, R108.) -/
def Obligations.ImmediateToAddressComplete : Prop :=
  let t : List ((BitVec 2 → EaField → Instr) × Operation) :=
    [(.ori, .ORI), (.andi, .ANDI), (.subi, .SUBI), (.addi, .ADDI), (.eori, .EORI), (.cmpi, .CMPI)]
  ∀ p ∈ t, ∀ (ss : BitVec 2) (n : Nat) (ea : EaField) (s : State), s.err = none → sizeStd ss = some n →
    (readImm n s).2.err = none → (resolveEa ea n (readImm n s).2).2.err = none →
    exec (p.1 ss ea) s = accepted p.2 n (some (readImm n s).1)
      (some (resolveEa ea n (readImm n s).2).1) none (resolveEa ea n (readImm n s).2).2

/-- O29, tier 1. A bit operation has size 4 on a data register and 1 otherwise, the size being the hint; its bit
number is the data register or the low byte of the bit-number word, which comes before the address words. CALLM has
size 0, hint 0 and the low byte of its argument-count word. (Rests on R89, R90, R91, R92, R93, R94, R95, R96, R98.)
-/
def Obligations.BitOperationsComplete : Prop :=
  (let t : List ((RegNum → EaField → Instr) × Operation) :=
    [(.btstDn, .BTST), (.bchgDn, .BCHG), (.bclrDn, .BCLR), (.bsetDn, .BSET)]
    ∀ p ∈ t, ∀ (dn : RegNum) (ea : EaField) (n : Nat) (s : State), s.err = none →
      n = (if ea.mode = 0 then 4 else 1) → (resolveEa ea n s).2.err = none →
      exec (p.1 dn ea) s = accepted p.2 n (some (.dr dn)) (some (resolveEa ea n s).1) none
        (resolveEa ea n s).2) ∧
  (let t : List ((EaField → Instr) × Operation) :=
    [(.btstImm, .BTST), (.bchgImm, .BCHG), (.bclrImm, .BCLR), (.bsetImm, .BSET)]
    ∀ p ∈ t, ∀ (ea : EaField) (n : Nat) (s : State) (w : Word), s.err = none → s.wordAhead 0 = some w →
      n = (if ea.mode = 0 then 4 else 1) → (resolveEa ea n (skipWords 1 s)).2.err = none →
      exec (p.1 ea) s = accepted p.2 n (some (.imm8 (w.setWidth 8)))
        (some (resolveEa ea n (skipWords 1 s)).1) none (resolveEa ea n (skipWords 1 s)).2) ∧
  (∀ (ea : EaField) (s : State) (w : Word), s.err = none → s.wordAhead 0 = some w →
    (resolveEa ea 0 (skipWords 1 s)).2.err = none →
    exec (.callm ea) s = accepted .CALLM 0 (some (.imm8 (w.setWidth 8)))
      (some (resolveEa ea 0 (skipWords 1 s)).1) none (resolveEa ea 0 (skipWords 1 s)).2)

/-- O30, tier 1. CMP2 and CHK2 consume their guarded word and put the address in slot 0 and the register in slot 1;
CAS takes Dc from bits 2:0 and Du from bits 8:6 of its word; MOVES takes register and direction from its word. Sizes
and hints are those of the size fields. (Rests on R99, R100, R102, R109.) -/
def Obligations.BoundsAndSwapComplete : Prop :=
  (let t : List ((BitVec 2 → EaField → RegField → Instr) × Operation) := [(.cmp2, .CMP2), (.chk2, .CHK2)]
    ∀ p ∈ t, ∀ (ss : BitVec 2) (n : Nat) (ea : EaField) (a : Bool) (r : RegNum) (s : State) (w : Word),
      s.err = none → s.wordAhead 0 = some w → sizeCmp2 ss = some n →
      (resolveEa ea n (skipWords 1 s)).2.err = none →
      exec (p.1 ss ea ⟨a, r⟩) s = accepted p.2 n (some (resolveEa ea n (skipWords 1 s)).1)
        (some (if a then .ar r else .dr r)) none (resolveEa ea n (skipWords 1 s)).2) ∧
  (let t : List ((EaField → Instr) × Nat) := [(.casB, 1), (.casW, 2), (.casL, 4)]
    ∀ p ∈ t, ∀ (ea : EaField) (hi : BitVec 7) (du dc : RegNum) (mid : BitVec 3) (s : State), s.err = none →
      s.wordAhead 0 = some (hi ++ du ++ mid ++ dc) → (resolveEa ea p.2 (skipWords 1 s)).2.err = none →
      exec (p.1 ea) s = accepted .CAS p.2 (some (.dPair dc du))
        (some (resolveEa ea p.2 (skipWords 1 s)).1) none (resolveEa ea p.2 (skipWords 1 s)).2) ∧
  (∀ (ss : BitVec 2) (n : Nat) (ea : EaField) (a toMem : Bool) (r : RegNum) (low : BitVec 11) (s : State),
    s.err = none → sizeStd ss = some n → s.wordAhead 0 = some (BitVec.ofBool a ++ r ++ BitVec.ofBool toMem ++ low) →
    (resolveEa ea n (skipWords 1 s)).2.err = none →
    exec (.moves ss ea) s = accepted .MOVES n
      (some (if toMem then (if a then .ar r else .dr r) else (resolveEa ea n (skipWords 1 s)).1))
      (some (if toMem then (resolveEa ea n (skipWords 1 s)).1 else (if a then .ar r else .dr r))) none
      (resolveEa ea n (skipWords 1 s)).2)

/-- O31, tier 1. CAS2 in both sizes ends the call with Err(NotImplemented), the position unmoved, where no error was
recorded before; its own effect is that refusal. (Rests on 40_group0.md R101, 92_eei_decisions.md D20.) -/
def Obligations.Cas2IsRefused : Prop :=
  ∀ (long : Bool) (s : State), s.err = none → exec (.cas2 long) s = failed .notImplemented s

/-- O32, tier 1. MOVE.B, MOVE.L and MOVE.W with sizes 1, 4 and 2 resolve the source, then the destination from the
position after it, both with the size as hint; MOVEA.L and MOVEA.W resolve the source and put AR(n) in slot 1.
(Rests on R111, R112.) -/
def Obligations.MoveFormsComplete : Prop :=
  (let t : List ((EaField → EaField → Instr) × Nat) := [(.moveB, 1), (.moveL, 4), (.moveW, 2)]
    ∀ p ∈ t, ∀ (src dst : EaField) (s : State), s.err = none → (resolveEa src p.2 s).2.err = none →
      (resolveEa dst p.2 (resolveEa src p.2 s).2).2.err = none →
      exec (p.1 src dst) s = accepted .MOVE p.2 (some (resolveEa src p.2 s).1)
        (some (resolveEa dst p.2 (resolveEa src p.2 s).2).1) none
        (resolveEa dst p.2 (resolveEa src p.2 s).2).2) ∧
  (let t : List ((RegNum → EaField → Instr) × Nat) := [(.moveaL, 4), (.moveaW, 2)]
    ∀ p ∈ t, ∀ (an : RegNum) (ea : EaField) (s : State), s.err = none → (resolveEa ea p.2 s).2.err = none →
      exec (p.1 an ea) s = accepted .MOVEA p.2 (some (resolveEa ea p.2 s).1) (some (.ar an)) none
        (resolveEa ea p.2 s).2)

/-- O33, tier 1. MOVEM to memory gives REGLIST of the mask, reversed for the predecrement mode alone, then the
address; MOVEM from memory gives the address, then REGLIST of the mask as it stands. MOVEP gives ARDISP(Ay,
sext_16(word)) and DR(Dx) in the order of its direction bit. Size 2 or 4 by the size bit. (Rests on R88, R141,
R142.) -/
def Obligations.MovemAndMovepComplete : Prop :=
  ∀ (long : Bool) (n : Nat) (s : State) (w : Word), n = (if long then 4 else 2) → s.err = none →
  s.wordAhead 0 = some w →
  (∀ ea : EaField, (resolveEa ea n (skipWords 1 s)).2.err = none →
    exec (.movemStore long ea) s = accepted .MOVEM n
      (some (.regList (if ea.mode = 4 then reverse16 w else w)))
      (some (resolveEa ea n (skipWords 1 s)).1) none (resolveEa ea n (skipWords 1 s)).2 ∧
    exec (.movemLoad long ea) s = accepted .MOVEM n (some (resolveEa ea n (skipWords 1 s)).1)
      (some (.regList w)) none (resolveEa ea n (skipWords 1 s)).2) ∧
  (∀ dx ay : RegNum,
    exec (.movep dx false long ay) s = accepted .MOVEP n
      (some (.arDisp ay ⟨w.signExtend 32, 0, none, none⟩)) (some (.dr dx)) none (skipWords 1 s) ∧
    exec (.movep dx true long ay) s = accepted .MOVEP n (some (.dr dx))
      (some (.arDisp ay ⟨w.signExtend 32, 0, none, none⟩)) none (skipWords 1 s))

/-- O34, tier 1. With the guarded word present and the address resolving under hint 4: a multiply puts DPAIR(Dh, Dl)
or DR(Dl) in slot 1 by its 64-bit flag; a 64-bit division DPAIR(Dr, Dq); a 32-bit division DR(Dq) with the quotient
tag where Dr = Dq, else DPAIR(Dr, Dq) with the remainder tag. Size 4. (Rests on R153, R154, R155, R156, R157, R158.)
-/
def Obligations.LongMultiplyDivideComplete : Prop :=
  ∀ (ea : EaField) (s : State) (w : Word) (o : Operand) (t : State), s.err = none → s.wordAhead 0 = some w →
  resolveEa ea 4 (skipWords 1 s) = (o, t) → t.err = none →
  (∀ (l : RegNum) (b : Bool) (h : RegNum),
    exec (.muluL ea l b h) s =
      accepted .MULU 4 (some o) (some (if b then .dPair h l else .dr l)) none t ∧
    exec (.mulsL ea l b h) s =
      accepted .MULS 4 (some o) (some (if b then .dPair h l else .dr l)) none t) ∧
  (∀ q r : RegNum,
    exec (.divuL64 ea q r) s = accepted .DIVU 4 (some o) (some (.dPair r q)) none t ∧
    exec (.divsL64 ea q r) s = accepted .DIVS 4 (some o) (some (.dPair r q)) none t ∧
    exec (.divuL32 ea q r) s = (if r = q then accepted .DIVU 4 (some o) (some (.dr q)) none t
      else accepted .DIVUL 4 (some o) (some (.dPair r q)) none t) ∧
    exec (.divsL32 ea q r) s = (if r = q then accepted .DIVS 4 (some o) (some (.dr q)) none t
      else accepted .DIVSL 4 (some o) (some (.dPair r q)) none t))

/-- O35, tier 1. CHK.L, CHK.W, LEA, DIVU.W, DIVS.W, MULU.W, MULS.W, SUBA, CMPA, ADDA, CMP, MOVE to CCR and MOVE to
SR: the address in slot 0 under a hint equal to the size, the register, or IMPLIED for CCR and SR, in slot 1. (Rests
on R159, R160, R161, R177, R178, R190, R191, R183, R186, R195, R188, R145 and R146 (42_group4.md).) -/
def Obligations.AddressToRegisterComplete : Prop :=
  ∀ (ea : EaField) (s : State) (n : Nat) (o : Operand) (t : State), s.err = none →
  resolveEa ea n s = (o, t) → t.err = none →
  (n = 4 → ∀ r, exec (.chkL r ea) s = accepted .CHK 4 (some o) (some (.dr r)) none t ∧
    exec (.lea r ea) s = accepted .LEA 4 (some o) (some (.ar r)) none t) ∧
  (n = 2 → (∀ r, exec (.chkW r ea) s = accepted .CHK 2 (some o) (some (.dr r)) none t ∧
      exec (.divuW r ea) s = accepted .DIVU 2 (some o) (some (.dr r)) none t ∧
      exec (.divsW r ea) s = accepted .DIVS 2 (some o) (some (.dr r)) none t ∧
      exec (.muluW r ea) s = accepted .MULU 2 (some o) (some (.dr r)) none t ∧
      exec (.mulsW r ea) s = accepted .MULS 2 (some o) (some (.dr r)) none t) ∧
    exec (.moveToCcr ea) s = accepted .MOVETOCCR 2 (some o) (some .implied) none t ∧
    exec (.moveToSr ea) s = accepted .MOVETOSR 2 (some o) (some .implied) none t) ∧
  (∀ (long : Bool) (r : RegNum), n = (if long then 4 else 2) →
    exec (.suba r long ea) s = accepted .SUBA n (some o) (some (.ar r)) none t ∧
    exec (.cmpa r long ea) s = accepted .CMPA n (some o) (some (.ar r)) none t ∧
    exec (.adda r long ea) s = accepted .ADDA n (some o) (some (.ar r)) none t) ∧
  (∀ (ss : BitVec 2) (r : RegNum), sizeStd ss = some n →
    exec (.cmp r ss ea) s = accepted .CMP n (some o) (some (.dr r)) none t)

/-- O36, tier 1. MOVE from SR and CCR, EOR, ADDQ, SUBQ and Scc put the address where their rules say; OR, SUB, AND
and ADD put the data register and the address in the order of the direction bit. The hint is the size. (Rests on
R143, R144, R167, R168, R169, R189, R182, R185, R194, R197.) -/
def Obligations.RegisterToAddressComplete : Prop :=
  ∀ (ea : EaField) (s : State) (n : Nat) (o : Operand) (t : State), s.err = none →
  resolveEa ea n s = (o, t) → t.err = none →
  (n = 2 → exec (.moveFromSr ea) s = accepted .MOVEFROMSR 2 (some .implied) (some o) none t ∧
    exec (.moveFromCcr ea) s = accepted .MOVEFROMCCR 2 (some .implied) (some o) none t) ∧
  (n = 1 → ∀ c, exec (.scc c ea) s = accepted .SCC 1 (some o) none (some (.condCode (condOf c))) t) ∧
  (∀ ss : BitVec 2, sizeStd ss = some n →
    (∀ r, exec (.eor r ss ea) s = accepted .EOR n (some (.dr r)) (some o) none t) ∧
    (∀ d, exec (.addq d ss ea) s = accepted .ADDQ n (some (.imm8 (quick d))) (some o) none t ∧
      exec (.subq d ss ea) s = accepted .SUBQ n (some (.imm8 (quick d))) (some o) none t) ∧
    (∀ p ∈ ([(.or, .OR), (.sub, .SUB), (.and, .AND), (.add, .ADD)] :
        List ((RegNum → Bool → BitVec 2 → EaField → Instr) × Operation)), ∀ r,
      exec (p.1 r false ss ea) s = accepted p.2 n (some o) (some (.dr r)) none t ∧
      exec (p.1 r true ss ea) s = accepted p.2 n (some (.dr r)) (some o) none t))

/-- O37, tier 1. By the R/M bit the two operands are DR(Ry), DR(Rx) or ARDEC(Ry), ARDEC(Rx), source first; PACK and
UNPK carry their raw adjustment word as the extra, with size 0; CMPM gives ARINC(Ay), ARINC(Ax). (Rests on R179,
R180, R181, R184, R187, R192, R196.) -/
def Obligations.PairFormsComplete : Prop :=
  ∀ (x y : RegNum) (mem : Bool) (s : State), s.err = none →
  (∀ f : RegNum → Operand, f = (if mem then .arDec else .dr) →
    exec (.sbcd x mem y) s = accepted .SBCD 1 (some (f y)) (some (f x)) none s ∧
    exec (.abcd x mem y) s = accepted .ABCD 1 (some (f y)) (some (f x)) none s ∧
    (∀ ss n, sizeStd ss = some n →
      exec (.subx x ss mem y) s = accepted .SUBX n (some (f y)) (some (f x)) none s ∧
      exec (.addx x ss mem y) s = accepted .ADDX n (some (f y)) (some (f x)) none s) ∧
    (∀ w, s.wordAhead 0 = some w →
      exec (.pack x mem y) s =
        accepted .PACK 0 (some (f y)) (some (f x)) (some (.packAdjust w)) (skipWords 1 s) ∧
      exec (.unpk x mem y) s =
        accepted .UNPK 0 (some (f y)) (some (f x)) (some (.packAdjust w)) (skipWords 1 s))) ∧
  (∀ ss n, sizeStd ss = some n →
    exec (.cmpm x ss y) s = accepted .CMPM n (some (.arInc y)) (some (.arInc x)) none s)

/-- O38, tier 1. Byte 0x00 reads a 16-bit displacement (size 2), byte 0xFF a 32-bit one (size 4), any other byte is
the sign-extended displacement itself (size 1); the target is PCDISP(2, displacement). Bcc carries its condition;
DBcc has a register, a word displacement and size 2. (Rests on R163, R171, R172, R173, R76 (30_encoding.md).) -/
def Obligations.BranchFormsComplete : Prop :=
  ∀ s : State, s.err = none →
  (∀ (c : BitVec 4), ∀ p ∈ ([(.bra, .BRA, none), (.bsr, .BSR, none),
      (.bcc c, .BCC, some (.condCode (condOf c)))] : List ((Byte → Instr) × Operation × Option Extra)),
    (∀ b : Byte, b ≠ 0x00 → b ≠ 0xFF →
      exec (p.1 b) s = accepted p.2.1 1 (some (.pcDisp 2 ⟨b.signExtend 32, 0, none, none⟩)) none p.2.2 s) ∧
    (∀ w, s.wordAhead 0 = some w →
      exec (p.1 0x00) s = accepted p.2.1 2 (some (.pcDisp 2 ⟨w.signExtend 32, 0, none, none⟩)) none p.2.2
        (skipWords 1 s)) ∧
    (∀ hi lo, s.wordAhead 0 = some hi → s.wordAhead 1 = some lo →
      exec (p.1 0xFF) s = accepted p.2.1 4 (some (.pcDisp 2 ⟨hi ++ lo, 0, none, none⟩)) none p.2.2
        (skipWords 2 s))) ∧
  (∀ (c : BitVec 4) (n : RegNum) (w : Word), s.wordAhead 0 = some w →
    exec (.dbcc c n) s = accepted .DBCC 2 (some (.dr n))
      (some (.pcDisp 2 ⟨w.signExtend 32, 0, none, none⟩)) (some (.condCode (condOf c))) (skipWords 1 s))

/-- O39, tier 1. With the extension word w present and the address resolving under hint 0: BFTST, BFCHG, BFCLR and
BFSET give the address alone, BFEXTU, BFEXTS and BFFFO the address and DR(w[14:12]), BFINS DR(w[14:12]) and the
address, each with the bitfield extra of w. (Rests on R199, R200, R201, R202, R203, R204, R205, R206.) -/
def Obligations.BitfieldFormsComplete : Prop :=
  ∀ (ea : EaField) (s : State) (z : BitVec 1) (r : RegNum) (l : BitVec 12) (w : Word) (o : Operand) (t : State),
  s.err = none → w = z ++ r ++ l → s.wordAhead 0 = some w → resolveEa ea 0 (skipWords 1 s) = (o, t) →
  t.err = none →
  (∀ p ∈ ([(.bftst, .BFTST), (.bfchg, .BFCHG), (.bfclr, .BFCLR), (.bfset, .BFSET)] :
      List ((EaField → Instr) × Operation)),
    exec (p.1 ea) s = accepted p.2 0 (some o) none (some (bfExtra w)) t) ∧
  (∀ p ∈ ([(.bfextu, .BFEXTU), (.bfexts, .BFEXTS), (.bfffo, .BFFFO)] :
      List ((EaField → Instr) × Operation)),
    exec (p.1 ea) s = accepted p.2 0 (some o) (some (.dr r)) (some (bfExtra w)) t) ∧
  exec (.bfins ea) s = accepted .BFINS 0 (some (.dr r)) (some o) (some (bfExtra w)) t

/-- O40, tier 1. For each size code with its size n: the count is DR(x) where the i/r bit is set and IMM8(Quick(x))
where it is clear, in slot 0, and DR(y) is in slot 1. (Rests on R215, R216, R217, R218, R219, R220, R221, R222, R65
(30_encoding.md).) -/
def Obligations.RegisterShiftsComplete : Prop :=
  let t : List ((BitVec 3 → BitVec 2 → Bool → RegNum → Instr) × Operation) :=
    [(.asrDy, .ASR), (.aslDy, .ASL), (.lsrDy, .LSR), (.lslDy, .LSL), (.roxrDy, .ROXR), (.roxlDy, .ROXL), (.rorDy, .ROR),
    (.rolDy, .ROL)]
  ∀ p ∈ t, ∀ (c : BitVec 3) (ss : BitVec 2) (n : Nat) (y : RegNum) (s : State), s.err = none →
    sizeStd ss = some n →
    exec (p.1 c ss true y) s = accepted p.2 n (some (.dr c)) (some (.dr y)) none s ∧
    exec (p.1 c ss false y) s = accepted p.2 n (some (.imm8 (quick c))) (some (.dr y)) none s

/-- O41, tier 1. Each of the 52 general operations with one destination register, FTST without one and FSINCOS with
the pair FPc, FPs, with its command word present: a register source gives size 10 and no extra; a source of format f
gives the size of f, the address resolved under that hint, and FPFormat(f) as the extra. (Rests on 47_fpu_ops.md
R226 to R251, 48_fpu_ops2.md R252 to R279, R261, R263, R69.) -/
def Obligations.FpuGeneralOperationsComplete : Prop :=
  let t : List ((EaField → Bool → BitVec 3 → RegNum → Instr) × Operation) :=
    [(.fmove, .FMOVE), (.fint, .FINT), (.fsinh, .FSINH), (.fintrz, .FINTRZ), (.fsqrt, .FSQRT), (.flognp1, .FLOGNP1),
    (.fetoxm1, .FETOXM1), (.ftanh, .FTANH), (.fatan, .FATAN), (.fasin, .FASIN), (.fatanh, .FATANH), (.fsin,
    .FSIN), (.ftan, .FTAN), (.fetox, .FETOX), (.ftwotox, .FTWOTOX), (.ftentox, .FTENTOX), (.flogn, .FLOGN),
    (.flog10, .FLOG10), (.flog2, .FLOG2), (.fabs, .FABS), (.fcosh, .FCOSH), (.fneg, .FNEG), (.facos, .FACOS),
    (.fcos, .FCOS), (.fgetexp, .FGETEXP), (.fgetman, .FGETMAN), (.fdiv, .FDIV), (.fmod, .FMOD), (.fadd, .FADD),
    (.fmul, .FMUL), (.fsgldiv, .FSGLDIV), (.frem, .FREM), (.fscale, .FSCALE), (.fsglmul, .FSGLMUL), (.fsub,
    .FSUB), (.fcmp, .FCMP), (.fsmove, .FSMOVE), (.fssqrt, .FSSQRT), (.fdmove, .FDMOVE), (.fdsqrt, .FDSQRT),
    (.fsabs, .FSABS), (.fsneg, .FSNEG), (.fdabs, .FDABS), (.fdneg, .FDNEG), (.fsdiv, .FSDIV), (.fsadd, .FSADD),
    (.fsmul, .FSMUL), (.fddiv, .FDDIV), (.fdadd, .FDADD), (.fdmul, .FDMUL), (.fssub, .FSSUB), (.fdsub, .FDSUB)]
  ∀ (ea : EaField) (src : BitVec 3) (s : State) (w : Word), s.err = none → s.wordAhead 0 = some w →
    (∀ p ∈ t, ∀ d, fpuAnswers (fun rm => p.1 ea rm src d) p.2 (some (.fr d)) ea src s) ∧
    (∀ fs fc, fpuAnswers (fun rm => .fsincos ea rm src fs fc) .FSINCOS (some (.fPair fc fs)) ea src s) ∧
    fpuAnswers (fun rm => .ftst ea rm src) .FTST none ea src s

/-- O42, tier 1. The forms with a size field, given the size code that their size function does not name (no row
reaches it: R300), end the call with Err(NotImplemented) and read nothing, where no error was recorded before.
(Rests on R73 (30_encoding.md), R300 (60_exceptions.md).) -/
def Obligations.SizeCode11IsRefused : Prop :=
  ∀ (ea : EaField) (n m : RegNum) (b : Bool) (rn : RegField) (s : State), s.err = none →
  ∀ i ∈ ([.cmp2 3 ea rn, .chk2 3 ea rn, .ori 3 ea, .andi 3 ea, .subi 3 ea, .addi 3 ea, .eori 3 ea, .cmpi 3 ea,
    .moves 3 ea, .negx 3 ea, .clr 3 ea, .neg 3 ea, .not 3 ea, .tst 3 ea, .addq n 3 ea, .subq n 3 ea,
    .or n b 3 ea, .subx n 3 b m, .sub n b 3 ea, .cmpm n 3 m, .cmp n 3 ea, .eor n 3 ea, .and n b 3 ea,
    .addx n 3 b m, .add n b 3 ea, .asrDy n 3 b m, .aslDy n 3 b m, .lsrDy n 3 b m, .lslDy n 3 b m,
    .roxrDy n 3 b m, .roxlDy n 3 b m, .rorDy n 3 b m, .rolDy n 3 b m] : List Instr),
    exec i s = failed .notImplemented s ∧ i.wf = false

/-- O43, tier 1. A general operation whose source format code is 111, and FMOVEM of the empty control-register list
in both directions, end the call with Err(Reserved) before the address is resolved, the position after the command
word, where that word is present. (Rests on R69, R283, R284, R297 (60_exceptions.md).) -/
def Obligations.FpuReservedForms : Prop :=
  let t : List ((EaField → Bool → BitVec 3 → RegNum → Instr)) :=
    [.fmove, .fint, .fsinh, .fintrz, .fsqrt, .flognp1, .fetoxm1, .ftanh, .fatan, .fasin, .fatanh, .fsin, .ftan,
    .fetox, .ftwotox, .ftentox, .flogn, .flog10, .flog2, .fabs, .fcosh, .fneg, .facos, .fcos, .fgetexp,
    .fgetman, .fdiv, .fmod, .fadd, .fmul, .fsgldiv, .frem, .fscale, .fsglmul, .fsub, .fcmp, .fsmove, .fssqrt,
    .fdmove, .fdsqrt, .fsabs, .fsneg, .fdabs, .fdneg, .fsdiv, .fsadd, .fsmul, .fddiv, .fdadd, .fdmul, .fssub,
    .fdsub]
  ∀ (ea : EaField) (s : State) (w : Word), s.err = none → s.wordAhead 0 = some w →
    (∀ i ∈ t, ∀ d, exec (i ea true 7 d) s = failed .reserved (skipWords 1 s)) ∧
    (∀ c d, exec (.fsincos ea true 7 c d) s = failed .reserved (skipWords 1 s)) ∧
    exec (.ftst ea true 7) s = failed .reserved (skipWords 1 s) ∧
    exec (.fmovemToCtl ea 0) s = failed .reserved (skipWords 1 s) ∧
    exec (.fmovemFromCtl ea 0) s = failed .reserved (skipWords 1 s)

/-- O44, tier 1. With the guarded command word present: FMOVECR gives IMM8(offset) and FR(dst), size 10; FMOVE
FPm,<ea> the register and the address under the size of its destination format; FMOVE of FPCR, FPSR, FPIAR carries
CONTROLREG 4, 2, 1 with size 4; FMOVEM of a non-empty list has hint 4 times its registers. FMOVEM of FP data
registers puts the address, resolved under hint 10, and the list operand in the order of its direction, size 10.
(Rests on R225, R280, R281, R282, R283, R284, R285, R286, R72.) -/
def Obligations.FpuMovesComplete : Prop :=
  ∀ (ea : EaField) (s : State) (w : Word), s.err = none → s.wordAhead 0 = some w →
  (∀ d off, exec (.fmovecr d off) s =
    accepted .FMOVECR 10 (some (.imm8 (off.setWidth 8))) (some (.fr d)) none (skipWords 1 s)) ∧
  (∀ (c m : BitVec 3) (k : BitVec 7) (o : Operand) (t : State),
    resolveEa ea (formatSize (fmtOut c k)) (skipWords 1 s) = (o, t) → t.err = none →
    exec (.fmoveToEa ea c m k) s = accepted .FMOVE (formatSize (fmtOut c k)) (some (.fr m)) (some o)
      (some (.fpFormat (fmtOut c k))) t) ∧
  (∀ (o : Operand) (t : State), resolveEa ea 4 (skipWords 1 s) = (o, t) → t.err = none →
    (∀ p ∈ ([(.fmoveToFpcr, 4), (.fmoveToFpsr, 2), (.fmoveToFpiar, 1)] : List ((EaField → Instr) × BitVec 12)),
      exec (p.1 ea) s = accepted .FMOVE 4 (some o) (some (.controlReg p.2)) none t) ∧
    (∀ p ∈ ([(.fmoveFromFpcr, 4), (.fmoveFromFpsr, 2), (.fmoveFromFpiar, 1)] :
        List ((EaField → Instr) × BitVec 12)),
      exec (p.1 ea) s = accepted .FMOVE 4 (some (.controlReg p.2)) (some o) none t)) ∧
  (∀ (l : BitVec 3) (n : Nat) (o : Operand) (t : State), l ≠ 0 →
    n = ((List.range 3).filter (fun i => l.getLsbD i)).length →
    resolveEa ea (4 * n) (skipWords 1 s) = (o, t) → t.err = none →
    exec (.fmovemToCtl ea l) s = accepted .FMOVEM 4 (some o) (some (.controlReg (l.setWidth 12))) none t ∧
    exec (.fmovemFromCtl ea l) s = accepted .FMOVEM 4 (some (.controlReg (l.setWidth 12))) (some o) none t) ∧
  (∀ (mode : BitVec 2) (l : Byte) (o : Operand) (t : State),
    resolveEa ea 10 (skipWords 1 s) = (o, t) → t.err = none →
    exec (.fmovemToFp ea mode l) s = accepted .FMOVEM 10 (some o) (some (fpList mode l)) none t ∧
    exec (.fmovemFromFp ea mode l) s = accepted .FMOVEM 10 (some (fpList mode l)) (some o) none t)

/-- O45, tier 1. With condition word c present FDBcc gives DR and PCDISP(4, displacement), FTRAPcc its operand, FScc
its address after the condition word, each with FPCondCode(FCond(c[5:0])); FNOP skips one word; FBcc.W and FBcc.L
take the condition from the opcode word and sample the PC at offset 2. (Rests on R287, R288, R289, R290, R291, R292,
R293, R294.) -/
def Obligations.FpuConditionFormsComplete : Prop :=
  ∀ (s : State), s.err = none →
  (∀ (hi : BitVec 10) (c : BitVec 6), s.wordAhead 0 = some (hi ++ c) →
    exec .ftrapcc s = accepted .FTRAPCC 0 none none (some (.fpCondCode (fcondOf c))) (skipWords 1 s) ∧
    (∀ (ea : EaField) (o : Operand) (t : State), resolveEa ea 1 (skipWords 1 s) = (o, t) → t.err = none →
      exec (.fscc ea) s = accepted .FSCC 1 (some o) none (some (.fpCondCode (fcondOf c))) t) ∧
    (∀ w, s.wordAhead 1 = some w →
      (∀ n, exec (.fdbcc n) s = accepted .FDBCC 2 (some (.dr n))
        (some (.pcDisp 4 ⟨w.signExtend 32, 0, none, none⟩)) (some (.fpCondCode (fcondOf c))) (skipWords 2 s)) ∧
      exec .ftrapccW s =
        accepted .FTRAPCC 2 (some (.imm16 w)) none (some (.fpCondCode (fcondOf c))) (skipWords 2 s) ∧
      (∀ lo, s.wordAhead 2 = some lo → exec .ftrapccL s =
        accepted .FTRAPCC 4 (some (.imm32 (w ++ lo))) none (some (.fpCondCode (fcondOf c)))
          (skipWords 3 s)))) ∧
  exec .fnop s = accepted .FNOP 0 none none none (skipWords 1 s) ∧
  (∀ (c : BitVec 6) (w : Word), s.wordAhead 0 = some w →
    exec (.fbccW c) s = accepted .FBCC 2 (some (.pcDisp 2 ⟨w.signExtend 32, 0, none, none⟩)) none
      (some (.fpCondCode (fcondOf c))) (skipWords 1 s) ∧
    (∀ lo, s.wordAhead 1 = some lo → exec (.fbccL c) s =
      accepted .FBCC 4 (some (.pcDisp 2 ⟨w ++ lo, 0, none, none⟩)) none (some (.fpCondCode (fcondOf c)))
        (skipWords 2 s)))

/-- O46, tier 2. For every instruction and every state, exec answers a next state: the buffer reads as before at
every offset, the position has not moved back and moved by whole words, and the result is Err of the recorded error
if there is one and otherwise Ok with the final position as its length. No instruction faults or is refused. (Rests
on R24, R7, R317 (Every call ends), R44.) -/
def Obligations.EveryMeaningEndsTheCall : Prop :=
  ∀ (i : Instr) (s : State), ∃ t, exec i s = .next t ∧ t.buf = s.buf ∧
  (∀ off, t.buf.byte? off = s.buf.byte? off) ∧ (∃ k, t.pos = s.pos + 2 * k) ∧
  (∀ k, t.err = some k → t.result = some (.err k)) ∧
  (t.err = none → ∃ ins, t.result = some (.ok ⟨t.pos, ins⟩))

/-- O47, tier 2. For every instruction: if an error k is recorded when its builder starts, the call ends with
Err(k), and k is still the error held. The first error of a call is its result, whatever the builder meets later.
(Rests on R301, R6.) -/
def Obligations.EarlierErrorWins : Prop :=
  ∀ (i : Instr) (s : State) (k : ErrorKind), s.err = some k →
  ∃ t, exec i s = .next t ∧ t.err = some k ∧ t.result = some (.err k)

/-- O48, tier 1. On a canonical buffer whose bytes decode to i, the step is exec of i at the fresh cursor moved past
the opcode word: position 2, no error, no result. (Rests on 30_encoding.md R42, R311.) -/
def Obligations.StepRunsTheDecodedInstruction : Prop :=
  ∀ (s : State) (i : Instr), s.buf.wf = true → decode s.buf.bytes = .ok i →
  step s = exec i { s with pos := 2, err := none, result := none }

/-- O49, tier 2. On a canonical buffer whose bytes the decoder refuses with kind k (OutOfSpace for a missing opcode
word or a missing guarded word, NotImplemented for a word pair no row takes), the step answers a next state with the
result Err(k). (Rests on R42, R46, R27, 60_exceptions.md section 1.) -/
def Obligations.StepReportsTheRefusal : Prop :=
  ∀ (s : State) (k : ErrorKind), s.buf.wf = true → decode s.buf.bytes = .error k →
  ∃ t, step s = .next t ∧ t.err = some k ∧ t.result = some (.err k) ∧ t.buf = s.buf

/-- O50, tier 1. Two states with the same buffer have the same step, whatever cursor, error and result they hold: no
state survives a call. (Formalises R313.) -/
def Obligations.StepDependsOnTheBufferAlone : Prop :=
  ∀ s t : State, s.buf = t.buf → step s = step t

/-- O51, tier 2. The dispatcher takes no row for a word pair exactly where the opcode word is one of those R113,
R170, R175 and R223 list, or where after a type-000 line-F word the command word is unassigned by R224. That
FMOVECR's command words after 0xF200 stand apart from R224's list is the model's deduction from R225 and R42, log
entry 7, DEDUCED, not a sentence of the spec. Where the opcode word itself is unassigned, the call ends with
Err(NotImplemented) after reading w1 only. (Rests on R81, R110, R113, R162, R170, R175, R176, R198, R223, R224,
R225, R42.) -/
def Obligations.UnassignedEncodingsAreExactlyTheListed : Prop :=
  (∀ w1 w2 : Word,
    decodeWords w1 w2 = none ↔ (unassignedFirst w1 = true ∨ unassignedCommand w1 w2 = true)) ∧
  (∀ (s : State) (w1 : Word), s.buf.word? 0 = some w1 → unassignedFirst w1 = true →
    step s = failed .notImplemented { s with pos := 2 })

/-- O52, tier 1. At least one word of each of the sixteen groups, written from the encoding lines of the rules,
decodes to the instruction it stands for; the word of group 1010, which has no row, decodes to none. (Rests on
30_encoding.md section 2, R41, the opcode map.) -/
def Obligations.SampleWordsDecode : Prop :=
  [decodeWords 0b0000_0110_01_111_001 0, decodeWords 0b0001_001_000_000_000 0,
    decodeWords 0b0010_010_001_111_100 0, decodeWords 0b0011_010_001_001_000 0, decodeWords 0b0100_100_111_010_010 0,
    decodeWords 0b0100_110_001_000_001 0b0_010_1_1_0000000_011, decodeWords 0b0101_0001_11_001_001 0,
    decodeWords 0b0110_0111_11111110 0, decodeWords 0b0111_001_0_11111111 0,
    decodeWords 0b1000_001_011_000_011 0,
    decodeWords 0b1001_001_1_11_001_000 0, decodeWords 0b1010_000000000000 0,
    decodeWords 0b1011_010_1_01_001_001 0, decodeWords 0b1100_001_1_10001_111 0, decodeWords 0b1101_001_1_10_00_0_000 0,
    decodeWords 0b1110_011_1_00_0_00_111 0, decodeWords 0b1111_001_000_000_000 0b000_001_001_0011000] =
  [some (.addi 1 ⟨7, 1⟩), some (.moveB ⟨0, 0⟩ ⟨0, 1⟩), some (.moveaL 2 ⟨7, 4⟩), some (.moveaW 2 ⟨1, 0⟩),
    some (.lea 4 ⟨2, 2⟩),
    some (.divsL64 ⟨0, 1⟩ 2 3), some (.dbcc 1 1), some (.bcc 7 0xFE), some (.moveq 1 0xFF),
    some (.divuW 1 ⟨0, 3⟩), some (.suba 1 true ⟨1, 0⟩), none, some (.cmpm 2 1 1), some (.exgDA 1 7),
    some (.addx 1 2 false 0),
    some (.aslDy 3 0 false 7), some (.fabs ⟨0, 0⟩ false 1 1)]

/-- O53, tier 3. For every well-formed instruction i and every word x that may follow: if i encodes to one opcode
word, that word followed by x decodes to i (for FBcc.W with condition field 0, where x is not 0: with 0 the pair is
FNOP); if i encodes to an opcode word and a guarded word, those two decode to i. (Rests on 30_encoding.md R41, R42,
R45.) -/
def Obligations.DecodeOfEncode : Prop :=
  ∀ (i : Instr) (x : Word), i.wf = true → (i = .fbccW 0 → x ≠ 0) →
  match encode i with
  | [w1] => decodeWords w1 x = some i
  | [w1, w2] => decodeWords w1 w2 = some i
  | _ => False

/-- O54, tier 2. If the dispatcher takes a row for a word pair, the instruction is well formed, its encoding begins
with exactly that opcode word, and, where the row has a guard, its second word decodes to the same instruction after
the same opcode word. (Rests on 30_encoding.md R42, R45, R79.) -/
def Obligations.DecodedWordsAreWellFormed : Prop :=
  ∀ (w1 w2 : Word) (i : Instr), decodeWords w1 w2 = some i →
  i.wf = true ∧ (encode i).head? = some w1 ∧
    (∀ v, (encode i)[1]? = some v → decodeWords w1 v = some i)

/-- O55, tier 1. State.reset meets the invariant: its buffer is canonical, its position even, and it holds no
result. The empty buffer and the empty result are the model's choice (log entries 1 and 2). (Rests on
70_reset_and_hazards.md R311.) -/
def Obligations.InvariantAtReset : Prop :=
  State.reset.inv = true

/-- O56, tier 3. From every state that meets the invariant, a step answers a next state that meets it and holds a
result: the buffer is canonical and unchanged, the position even; on Ok no error is held, bytesUsed is the final
position, even, 2 to 22 and at most L, the size is one of 0, 1, 2, 4, 8, 10, 12 and static bitfield values are
1..32; on Err the kind is the error held. (Rests on R7, R20, R22, R23, R77, R302, R317.) -/
def Obligations.StepKeepsTheInvariant : Prop :=
  ∀ s : State, s.inv = true → ∃ t, step s = .next t ∧ t.inv = true ∧ t.buf = s.buf ∧ t.result.isSome = true

/-- O57, tier 2. If a call on some bytes ends Ok with length n, the call on its first n bytes and the call on those
bytes followed by any others end with the same result. (Rests on R25, R314 (2).) -/
def Obligations.TrailingBytesDoNotMatter : Prop :=
  ∀ (bytes more : List Byte) (d : DecodedInstruction), decodeCall bytes = some (.ok d) →
  decodeCall (bytes.take d.bytesUsed) = some (.ok d) ∧ decodeCall (bytes ++ more) = some (.ok d)

/-- O58, tier 2. For every byte sequence the result of the call, Ok or Err, is the result of the call on its first
22 bytes. (Rests on R77, R317.) -/
def Obligations.OnlyTheFirst22BytesMatter : Prop :=
  ∀ bytes : List Byte, decodeCall bytes = decodeCall (bytes.take 22)

/-- O59, tier 2. Walking a stream from any offset never runs out: it emits instructions until the offset is past the
stream, or stops at the offset of a call that ends with an error. (Rests on R315, R317.) -/
def Obligations.WalkEnds : Prop :=
  ∀ (stream : List Byte) (start : Nat), (walk stream start).2 ≠ .cut

/-- O60, tier 2. For every form: if after the first j of its reads (the words after the opcode word, the immediate,
each effective address under the hint of the form, in the order of its rule) the error k is recorded, the call ends
with Err(k), and the cursor is the one after all reads of the form: BadSize of an immediate, BadRegister of mode 7
with register 5 to 7, Reserved of an extension word and OutOfSpace of a missing word all reach the result, from the
source as from the destination. With j = 0 it is the error held before. That FMOVEM from control registers and from
FP data registers (fmovemFromCtl, fmovemFromFp) with mode 7 register 4 ends with Err(BadSize), where the Exceptions
lines of R284 and R286 say no BadSize, is the model's choice, log entry 6, DEDUCED from their pseudocode and R56,
not a sentence of the spec. (Rests on R298 (60_exceptions.md), R301, R302, R39, R44, R6, R56, R284, R286.) -/
def Obligations.MetErrorsEndTheCall : Prop :=
  ∀ (i : Instr) (s : State) (j : Nat) (k : ErrorKind), (runReads ((readsOf i).take j) s).err = some k →
  exec i s = failed k (runReads (readsOf i) s)

end
end

