-- ==== Sys2Proof/Laws/Memory.lean ====
section
/-! SUPPORT. The buffer's canonical form: every memory operation gives or keeps it, and in it a read by offset is the
byte at that place (20_memory.md R24, R26). -/
namespace Sys2Proof.Machine

theorem Memory.ofBytesFrom_keys (bs : List Byte) :
    ∀ n, (Memory.ofBytesFrom n bs).map (·.1) = List.range' n bs.length := by
  induction bs with
  | nil => intro n; rfl
  | cons b bs ih => intro n; simp [Memory.ofBytesFrom, ih, List.range'_succ]

@[simp] theorem Memory.ofBytesFrom_length (bs : List Byte) : ∀ n, (Memory.ofBytesFrom n bs).length = bs.length := by
  induction bs with
  | nil => intro n; rfl
  | cons b bs ih => intro n; simp [Memory.ofBytesFrom, ih]

@[simp] theorem Memory.ofBytes_length (bs : List Byte) : (Memory.ofBytes bs).length = bs.length :=
  Memory.ofBytesFrom_length bs 0

/-- The one operation that makes a buffer makes a canonical one. -/
theorem Memory.ofBytes_wf (bs : List Byte) : (Memory.ofBytes bs).wf = true := by
  simp [Memory.wf, Memory.ofBytes, Memory.ofBytesFrom_keys, List.range_eq_range']

/-- Loading an instruction leaves a canonical buffer. -/
theorem loadTableWord_wf (s : State) (n w : Nat) : (loadTableWord s n w).buf.wf = true :=
  Memory.ofBytes_wf _

@[simp] theorem Memory.bytes_ofBytesFrom (bs : List Byte) : ∀ n, Memory.bytes (Memory.ofBytesFrom n bs) = bs := by
  induction bs with
  | nil => intro n; rfl
  | cons b bs ih => intro n; simpa [Memory.ofBytesFrom, Memory.bytes] using ih (n + 1)

@[simp] theorem Memory.bytes_ofBytes (bs : List Byte) : (Memory.ofBytes bs).bytes = bs :=
  Memory.bytes_ofBytesFrom bs 0

@[simp] theorem Memory.bytes_length (m : Memory) : m.bytes.length = m.length := List.length_map ..

theorem Memory.lookup_ofBytesFrom (bs : List Byte) :
    ∀ n off, List.lookup (n + off) (Memory.ofBytesFrom n bs) = bs[off]? := by
  induction bs with
  | nil => intro n off; rfl
  | cons b bs ih =>
    intro n off
    cases off with
    | zero => simp [Memory.ofBytesFrom]
    | succ k =>
      have h : (n + (k + 1) == n) = false := by simp
      have e : n + (k + 1) = (n + 1) + k := by omega
      simp only [Memory.ofBytesFrom, List.lookup, h]
      rw [e, ih (n + 1) k]
      simp

/-- A read of a buffer made from bytes is the byte at that offset, none past the end. -/
@[simp] theorem Memory.byte?_ofBytes (bs : List Byte) (off : Nat) : (Memory.ofBytes bs).byte? off = bs[off]? := by
  have h := Memory.lookup_ofBytesFrom bs 0 off
  rwa [Nat.zero_add] at h

theorem Memory.eq_ofBytesFrom (m : Memory) :
    ∀ n, m.map (·.1) = List.range' n m.length → m = Memory.ofBytesFrom n m.bytes := by
  induction m with
  | nil => intro n _; rfl
  | cons c m ih =>
    intro n h
    simp only [List.map_cons, List.length_cons, List.range'_succ, List.cons.injEq] at h
    have t := ih (n + 1) h.2
    obtain ⟨k, b⟩ := c
    simp only [Memory.bytes, List.map_cons, Memory.ofBytesFrom] at *
    rw [h.1, ← t]

/-- A canonical buffer is the buffer of its bytes. -/
theorem Memory.eq_ofBytes_of_wf {m : Memory} (h : m.wf = true) : m = Memory.ofBytes m.bytes := by
  apply Memory.eq_ofBytesFrom m 0
  simpa [Memory.wf, List.range_eq_range'] using h

/-- In a canonical buffer a read is the byte at that place, none past the end. -/
theorem Memory.byte?_of_wf {m : Memory} (h : m.wf = true) (off : Nat) : m.byte? off = m.bytes[off]? := by
  conv => lhs; rw [Memory.eq_ofBytes_of_wf h]
  rw [Memory.byte?_ofBytes]

/-- In a canonical buffer the word read is the decoder's word of its bytes. -/
theorem Memory.word?_of_wf {m : Memory} (h : m.wf = true) (off : Nat) : m.word? off = wordAt m.bytes off := by
  cases h1 : m.bytes[off]? <;> cases h2 : m.bytes[off + 1]? <;>
    simp [Memory.word?, wordAt, Memory.byte?_of_wf h, h1, h2]

/-- In a canonical buffer a word is there exactly where it fits. -/
theorem Memory.word?_isSome_of_wf {m : Memory} (h : m.wf = true) (off : Nat) :
    (m.word? off).isSome = decide (off + 2 ≤ m.length) := by
  rw [Memory.word?_of_wf h, wordAt]
  rcases Nat.lt_or_ge (off + 1) m.bytes.length with g | g
  · have g' : off < m.bytes.length := by omega
    rw [List.getElem?_eq_getElem g, List.getElem?_eq_getElem g']
    have : off + 2 ≤ m.length := by rw [Memory.bytes_length] at g; omega
    simp [this]
  · have g1 : m.bytes[off + 1]? = none := List.getElem?_eq_none g
    have : ¬ off + 2 ≤ m.length := by rw [Memory.bytes_length] at g; omega
    rw [g1]
    cases m.bytes[off]? <;> simp [this]

end Sys2Proof.Machine
end

