-- ==== Sys2Proof/Laws/State.lean ====
section
/-! SUPPORT. One lemma for each field of the state under each update: reset, the fresh cursor, skipping words and
loading an instruction. -/
namespace Sys2Proof.Machine

@[simp] theorem State.reset_buf : State.reset.buf = [] := rfl
@[simp] theorem State.reset_pos : State.reset.pos = 0 := rfl
@[simp] theorem State.reset_err : State.reset.err = none := rfl
@[simp] theorem State.reset_result : State.reset.result = none := rfl

@[simp] theorem freshCursor_buf (s : State) : (freshCursor s).buf = s.buf := rfl
@[simp] theorem freshCursor_pos (s : State) : (freshCursor s).pos = 0 := rfl
@[simp] theorem freshCursor_err (s : State) : (freshCursor s).err = none := rfl
@[simp] theorem freshCursor_result (s : State) : (freshCursor s).result = none := rfl
@[simp] theorem freshCursor_len (s : State) : (freshCursor s).len = s.len := rfl

@[simp] theorem skipWords_buf (n : Nat) (s : State) : (skipWords n s).buf = s.buf := rfl
@[simp] theorem skipWords_pos (n : Nat) (s : State) : (skipWords n s).pos = s.pos + 2 * n := rfl
@[simp] theorem skipWords_err (n : Nat) (s : State) : (skipWords n s).err = s.err := rfl
@[simp] theorem skipWords_result (n : Nat) (s : State) : (skipWords n s).result = s.result := rfl
@[simp] theorem skipWords_len (n : Nat) (s : State) : (skipWords n s).len = s.len := rfl

@[simp] theorem loadTableWord_buf (s : State) (n w : Nat) :
    (loadTableWord s n w).buf = Memory.ofBytes (tableBytes n w) := rfl
@[simp] theorem loadTableWord_pos (s : State) (n w : Nat) : (loadTableWord s n w).pos = s.pos := rfl
@[simp] theorem loadTableWord_err (s : State) (n w : Nat) : (loadTableWord s n w).err = s.err := rfl
@[simp] theorem loadTableWord_result (s : State) (n w : Nat) : (loadTableWord s n w).result = s.result := rfl

@[simp] theorem State.withFetchWord_eq (s : State) (n w : Nat) : s.withFetchWord n w = loadTableWord s n w := rfl

/-- The step is the decode call. -/
theorem step_eq (s : State) : step s = decodeStep s := rfl

end Sys2Proof.Machine
end

