-- ==== Sys2Proof/Laws/Ops.lean ====
section
/-! SUPPORT. What each cursor operation can do, said once: `Advances n s t` is everything that holds between the state
before and the state after an operation that reads at most `n` words (10_state.md R5 to R7, 20_memory.md R27 to
R30). -/
namespace Sys2Proof.Machine

/-- The state `t` is the state `s` after at most `n` words were read: the buffer and the result are as before, the
position moved by whole words, an error recorded before is still the one recorded, and where no error is recorded
afterwards none was before and the position is still inside a canonical buffer. -/
structure Advances (n : Nat) (s t : State) : Prop where
  buf : t.buf = s.buf
  result : t.result = s.result
  pos : ∃ k, k ≤ n ∧ t.pos = s.pos + 2 * k
  sticky : ∀ k, s.err = some k → t.err = some k
  within : t.err = none → s.buf.wf = true → s.pos ≤ s.len → t.pos ≤ t.len

theorem Advances.refl (s : State) : Advances 0 s s :=
  ⟨rfl, rfl, ⟨0, by omega, by omega⟩, fun _ h => h, fun _ _ h => h⟩

theorem Advances.mono {n m : Nat} {s t : State} (h : Advances n s t) (hnm : n ≤ m) : Advances m s t :=
  ⟨h.buf, h.result, h.pos.elim fun k hk => ⟨k, by omega, hk.2⟩, h.sticky, h.within⟩

theorem Advances.len {n : Nat} {s t : State} (h : Advances n s t) : t.len = s.len := by
  simp only [State.len, h.buf]

/-- No error after means no error before. -/
theorem Advances.err_none {n : Nat} {s t : State} (h : Advances n s t) (e : t.err = none) : s.err = none := by
  cases hs : s.err with
  | none => rfl
  | some k => rw [h.sticky k hs] at e; cases e

theorem Advances.trans {n m : Nat} {s t u : State} (h : Advances n s t) (g : Advances m t u) :
    Advances (n + m) s u := by
  obtain ⟨k, hk, pk⟩ := h.pos
  obtain ⟨l, hl, pl⟩ := g.pos
  refine ⟨g.buf.trans h.buf, g.result.trans h.result, ⟨k + l, by omega, by omega⟩,
    fun e he => g.sticky e (h.sticky e he), ?_⟩
  intro e w p
  exact g.within e (h.buf ▸ w) (h.within (g.err_none e) w p)

/-! Recording an error. -/

@[simp] theorem recordError_buf (k : ErrorKind) (s : State) : (recordError k s).buf = s.buf := by
  unfold recordError; split <;> rfl
@[simp] theorem recordError_pos (k : ErrorKind) (s : State) : (recordError k s).pos = s.pos := by
  unfold recordError; split <;> rfl
@[simp] theorem recordError_result (k : ErrorKind) (s : State) : (recordError k s).result = s.result := by
  unfold recordError; split <;> rfl
@[simp] theorem recordError_len (k : ErrorKind) (s : State) : (recordError k s).len = s.len := by
  simp [State.len]

/-- The error after recording `k` is the first of the call: the one held, else `k`. -/
@[simp] theorem recordError_err (k : ErrorKind) (s : State) : (recordError k s).err = some (s.err.getD k) := by
  unfold recordError; split <;> simp_all

theorem recordError_of_none {k : ErrorKind} {s : State} (h : s.err = none) :
    recordError k s = { s with err := some k } := by
  simp [recordError, h]

theorem recordError_of_some {k e : ErrorKind} {s : State} (h : s.err = some e) : recordError k s = s := by
  simp [recordError, h]

theorem recordError_advances (k : ErrorKind) (s : State) : Advances 0 s (recordError k s) :=
  ⟨by simp, by simp, ⟨0, by omega, by simp⟩, fun e h => by simp [h], fun e => by simp at e⟩

/-! Peeking and pulling. -/

theorem peekWord_of_some {k : Nat} {s : State} {w : Word} (h : s.buf.word? (s.pos + 2 * k) = some w) :
    peekWord k s = (w, s) := by
  simp [peekWord, h]

theorem peekWord_of_none {k : Nat} {s : State} (h : s.buf.word? (s.pos + 2 * k) = none) :
    peekWord k s = (0, recordError .outOfSpace s) := by
  simp [peekWord, h]

theorem peekWord_advances (k : Nat) (s : State) : Advances 0 s (peekWord k s).2 := by
  unfold peekWord
  split
  · exact Advances.refl s
  · exact recordError_advances _ _

theorem pull16_of_some {s : State} {w : Word} (h : s.buf.word? s.pos = some w) : pull16 s = (w, skipWords 1 s) := by
  have h' : s.buf.word? (s.pos + 2 * 0) = some w := by simpa using h
  simp [pull16, peekWord_of_some h']

theorem pull16_of_none {s : State} (h : s.buf.word? s.pos = none) :
    pull16 s = (0, skipWords 1 (recordError .outOfSpace s)) := by
  have h' : s.buf.word? (s.pos + 2 * 0) = none := by simpa using h
  simp [pull16, peekWord_of_none h']

theorem pull16_advances (s : State) : Advances 1 s (pull16 s).2 := by
  cases h : s.buf.word? s.pos with
  | some w =>
    rw [pull16_of_some h]
    refine ⟨rfl, rfl, ⟨1, by omega, by simp⟩, fun _ g => g, fun _ wf _ => ?_⟩
    have := Memory.word?_isSome_of_wf wf s.pos
    rw [h] at this
    simpa [State.len] using this
  | none =>
    rw [pull16_of_none h]
    exact ⟨by simp, by simp, ⟨1, by omega, by simp⟩, fun e g => by simp [g], fun e => by simp at e⟩

theorem pull32_advances (s : State) : Advances 2 s (pull32 s).2 :=
  (pull16_advances s).trans (pull16_advances _)

theorem pull32_of_some {s : State} {hi lo : Word} (h : s.buf.word? s.pos = some hi)
    (l : s.buf.word? (s.pos + 2) = some lo) : pull32 s = (hi ++ lo, skipWords 2 s) := by
  have l' : (skipWords 1 s).buf.word? (skipWords 1 s).pos = some lo := by simpa using l
  unfold pull32
  simp only [pull16_of_some h, pull16_of_some l']
  rfl

/-! The end of a call. -/

/-- All that `emit` can do: one next state, the cursor with the call's result. -/
theorem emit_eq (op : Operation) (size : Nat) (o0 o1 : Option Operand) (x : Option Extra) (s : State) :
    emit op size o0 o1 x s = .next { s with result := some (callResult ⟨size, op, o0, o1, x⟩ s) } := rfl

theorem emit_of_none {op : Operation} {size : Nat} {o0 o1 : Option Operand} {x : Option Extra} {s : State}
    (h : s.err = none) :
    emit op size o0 o1 x s = .next { s with result := some (.ok ⟨s.pos, ⟨size, op, o0, o1, x⟩⟩) } := by
  simp [emit, callResult, h]

theorem emit_of_some {op : Operation} {size : Nat} {o0 o1 : Option Operand} {x : Option Extra} {s : State}
    {k : ErrorKind} (h : s.err = some k) :
    emit op size o0 o1 x s = .next { s with result := some (.err k) } := by
  simp [emit, callResult, h]

/-- All that `raiseError` can do: one next state, the first error of the call recorded and its result. -/
theorem raiseError_eq (k : ErrorKind) (s : State) :
    raiseError k s = .next { s with err := some (s.err.getD k), result := some (.err (s.err.getD k)) } := by
  unfold raiseError recordError
  split <;> simp_all

end Sys2Proof.Machine
end

