-- ==== Sys2Proof/Laws/Operands.lean ====
section
/-! SUPPORT. What each reading operation of the resolver can do: how many words it reads at most, and all that
`Advances` says of it (30_encoding.md sections 4 and 5). -/
namespace Sys2Proof.Machine

theorem pullDisp16_advances (s : State) : Advances 1 s (pullDisp16 s).2 := pull16_advances s

theorem pullDisp16_of_some {s : State} {w : Word} (h : s.buf.word? s.pos = some w) :
    pullDisp16 s = (w.signExtend 32, skipWords 1 s) := by
  simp [pullDisp16, pull16_of_some h]

theorem readImm_advances (size : Nat) (s : State) : Advances 2 s (readImm size s).2 := by
  unfold readImm
  split
  · exact (pull16_advances s).mono (by omega)
  · split
    · exact (pull16_advances s).mono (by omega)
    · split
      · exact pull32_advances s
      · exact (recordError_advances _ s).mono (by omega)

theorem pullSized_advances (code : BitVec 2) (s : State) : Advances 2 s (pullSized code s).2 := by
  unfold pullSized
  split
  · exact (pullDisp16_advances s).mono (by omega)
  · split
    · exact pull32_advances s
    · exact (Advances.refl s).mono (by omega)

theorem pullBase_advances (ext : Word) (s : State) : Advances 2 s (pullBase ext s).2 := by
  unfold pullBase
  split
  · exact (recordError_advances _ s).mono (by omega)
  · exact pullSized_advances _ s

theorem pullOuter_advances (ext : Word) (s : State) : Advances 2 s (pullOuter ext s).2 := by
  unfold pullOuter
  split
  · exact (recordError_advances _ s).mono (by omega)
  · exact pullSized_advances _ s

theorem fullDisp_advances (ext : Word) (s : State) : Advances 4 s (fullDisp ext s).2 :=
  (pullBase_advances ext s).trans (pullOuter_advances ext _)

theorem extWord_advances (s : State) : Advances 5 s (extWord s).2 := by
  unfold extWord
  dsimp only
  split
  · exact ((pull16_advances s).trans (fullDisp_advances _ _)).mono (by omega)
  · exact (pull16_advances s).mono (by omega)

theorem branchDisp_advances (disp : Byte) (s : State) : Advances 2 s (branchDisp disp s).2 := by
  unfold branchDisp
  split
  · exact (pullDisp16_advances s).mono (by omega)
  · split
    · exact pull32_advances s
    · exact (Advances.refl s).mono (by omega)

/-! The resolver. -/

theorem resolveMode7_advances (reg : RegNum) (size : Nat) (s : State) :
    Advances 5 s (resolveMode7 reg size s).2 := by
  unfold resolveMode7
  split
  · exact (pull16_advances s).mono (by omega)
  · split
    · exact (pull32_advances s).mono (by omega)
    · split
      · exact (pullDisp16_advances s).mono (by omega)
      · split
        · exact extWord_advances s
        · split
          · exact (readImm_advances size s).mono (by omega)
          · exact (recordError_advances _ s).mono (by omega)

/-- All that the resolver does to the cursor: at most five words are read. -/
theorem resolveEa_advances (ea : EaField) (size : Nat) (s : State) : Advances 5 s (resolveEa ea size s).2 := by
  have r : Advances 5 s s := (Advances.refl s).mono (by omega)
  unfold resolveEa
  split
  · exact r
  · split
    · exact r
    · split
      · exact r
      · split
        · exact r
        · split
          · exact r
          · split
            · exact (pullDisp16_advances s).mono (by omega)
            · split
              · exact extWord_advances s
              · exact resolveMode7_advances _ _ s

/-! Sizes. -/

/-- The size functions give only 1, 2 and 4. -/
theorem sizeStd_mem {ss : BitVec 2} {n : Nat} (h : sizeStd ss = some n) : n = 1 ∨ n = 2 ∨ n = 4 := by
  unfold sizeStd at h
  split at h <;> simp at h <;> omega

/-- A builder that asked for a size goes on with it, or raises `NotImplemented`. -/
theorem withSize_some (n : Nat) (s : State) (k : Nat → StepResult) : withSize (some n) s k = k n := rfl

theorem withSize_none (s : State) (k : Nat → StepResult) :
    withSize none s k = raiseError .notImplemented s := rfl

end Sys2Proof.Machine
end

