-- ==== Sys2Proof/Laws/Forms.lean ====
section
/-! SUPPORT. What each builder's shape can do, said once: it answers one next state, after at most so many words, with
the call's result set by the first error or by the instruction (30_encoding.md R44, 60_exceptions.md R301). -/
namespace Sys2Proof.Machine

/-- The builder's answer `r` from the state `s`: a next state that is a cursor `t` after at most `n` words, with a
result; the result is the recorded error if there is one, else an instruction of a legal size and a legal extra whose
length is the final position. -/
def Ends (n : Nat) (s : State) (r : StepResult) : Prop :=
  ∃ t c, Advances n s t ∧ r = .next { t with result := some c } ∧ (∀ k, t.err = some k → c = .err k) ∧
    (t.err = none → ∃ ins : Instruction, c = .ok ⟨t.pos, ins⟩ ∧ ins.size ∈ legalSizes ∧
      ∀ x, ins.extra = some x → x.inRange = true)

theorem Ends.mono {n m : Nat} {s : State} {r : StepResult} (h : Ends n s r) (g : n ≤ m) : Ends m s r := by
  obtain ⟨t, c, a, b⟩ := h
  exact ⟨t, c, a.mono g, b⟩

theorem Ends.after {n m : Nat} {s t : State} {r : StepResult} (a : Advances n s t) (h : Ends m t r) :
    Ends (n + m) s r := by
  obtain ⟨u, c, b, d⟩ := h
  exact ⟨u, c, a.trans b, d⟩

theorem emit_ends {op : Operation} {size : Nat} {o0 o1 : Option Operand} {x : Option Extra} {s : State}
    (hs : size ∈ legalSizes) (hx : ∀ y, x = some y → y.inRange = true) : Ends 0 s (emit op size o0 o1 x s) := by
  refine ⟨s, callResult ⟨size, op, o0, o1, x⟩ s, Advances.refl s, rfl, fun k h => by simp [callResult, h], ?_⟩
  intro h
  exact ⟨⟨size, op, o0, o1, x⟩, by simp [callResult, h], hs, hx⟩

theorem raiseError_ends (k : ErrorKind) (s : State) : Ends 0 s (raiseError k s) := by
  refine ⟨recordError k s, .err (s.err.getD k), recordError_advances k s, ?_, fun e h => ?_, fun h => ?_⟩
  · simp [raiseError]
  · have g := (recordError_err k s).symm.trans h
    simpa using g
  · simp at h

theorem withSize_ends {n : Nat} {size : Option Nat} {s : State} {k : Nat → StepResult}
    (h : ∀ m, size = some m → Ends n s (k m)) : Ends n s (withSize size s k) := by
  cases size with
  | none => exact (raiseError_ends _ s).mono (by omega)
  | some m => exact h m rfl

theorem bfData_inRange (dyn : Bool) (v : BitVec 5) : (bfData dyn v).inRange = true := by
  revert dyn v
  decide

theorem bfExtra_inRange (w2 : Word) : (bfExtra w2).inRange = true := by
  simp [bfExtra, Extra.inRange, bfData_inRange]

theorem formatSize_legal (f : FPFormat) : formatSize f ∈ legalSizes := by
  cases f <;> simp [formatSize, legalSizes]

theorem sizeStd_legal {ss : BitVec 2} {n : Nat} (h : sizeStd ss = some n) : n ∈ legalSizes := by
  rcases sizeStd_mem h with rfl | rfl | rfl <;> decide

theorem sizeWL_legal (long : Bool) : sizeWL long ∈ legalSizes := by cases long <;> decide

theorem bitOpSize_legal (ea : EaField) : bitOpSize ea ∈ legalSizes := by
  unfold bitOpSize
  split <;> decide

theorem noExtra : ∀ y : Extra, (none : Option Extra) = some y → y.inRange = true := fun _ h => by cases h

theorem emitEa_ends {op : Operation} {size hint : Nat} {ea : EaField} {x : Option Extra} {s : State}
    (hs : size ∈ legalSizes) (hx : ∀ y, x = some y → y.inRange = true) : Ends 5 s (emitEa op size hint ea x s) :=
  Ends.after (resolveEa_advances ea hint s) (emit_ends hs hx)

theorem emitEaTo_ends {op : Operation} {size : Nat} {ea : EaField} {o : Operand} {s : State}
    (hs : size ∈ legalSizes) : Ends 5 s (emitEaTo op size ea o s) :=
  Ends.after (resolveEa_advances ea size s) (emit_ends hs noExtra)

theorem emitToEa_ends {op : Operation} {size : Nat} {ea : EaField} {o : Operand} {s : State}
    (hs : size ∈ legalSizes) : Ends 5 s (emitToEa op size o ea s) :=
  Ends.after (resolveEa_advances ea size s) (emit_ends hs noExtra)

theorem emitSizedEa_ends (op : Operation) (ss : BitVec 2) (ea : EaField) (s : State) :
    Ends 5 s (emitSizedEa op ss ea s) :=
  withSize_ends fun _ h => emitEa_ends (sizeStd_legal h) noExtra

theorem emitDnEa_ends (op : Operation) (dn : RegNum) (toEa : Bool) (ss : BitVec 2) (ea : EaField) (s : State) :
    Ends 5 s (emitDnEa op dn toEa ss ea s) := by
  refine withSize_ends fun m h => ?_
  cases toEa
  · exact emitEaTo_ends (sizeStd_legal h)
  · exact emitToEa_ends (sizeStd_legal h)

theorem emitImmToImplied_ends {op : Operation} {size : Nat} {s : State} (hs : size ∈ legalSizes) :
    Ends 2 s (emitImmToImplied op size s) :=
  Ends.after (readImm_advances size s) (emit_ends hs noExtra)

theorem emitImmToEa_ends (op : Operation) (ss : BitVec 2) (ea : EaField) (s : State) :
    Ends 7 s (emitImmToEa op ss ea s) :=
  withSize_ends fun m h => Ends.after (readImm_advances m s)
    (Ends.after (resolveEa_advances ea m _) (emit_ends (sizeStd_legal h) noExtra))

theorem emitBitDn_ends (op : Operation) (dn : RegNum) (ea : EaField) (s : State) : Ends 5 s (emitBitDn op dn ea s) :=
  emitToEa_ends (bitOpSize_legal ea)

theorem emitByteToEa_ends {op : Operation} {size hint : Nat} {ea : EaField} {s : State} (hs : size ∈ legalSizes) :
    Ends 6 s (emitByteToEa op size hint ea s) :=
  Ends.after (pull16_advances s) (Ends.after (resolveEa_advances ea hint _) (emit_ends hs noExtra))

theorem sizeCmp2_legal {c : BitVec 2} {n : Nat} (h : sizeCmp2 c = some n) : n ∈ legalSizes := by
  unfold sizeCmp2 at h
  split at h <;> simp at h <;> subst h <;> decide

theorem emitBounds_ends (op : Operation) (ss : BitVec 2) (ea : EaField) (rn : RegField) (s : State) :
    Ends 6 s (emitBounds op ss ea rn s) :=
  withSize_ends fun _ h => Ends.after (pull16_advances s) (emitEaTo_ends (sizeCmp2_legal h))

theorem sizeCas_legal {c : BitVec 2} {n : Nat} (h : sizeCas c = some n) : n ∈ legalSizes := by
  unfold sizeCas at h
  split at h <;> simp at h <;> subst h <;> decide

theorem sizeMove_legal {c : BitVec 2} {n : Nat} (h : sizeMove c = some n) : n ∈ legalSizes := by
  unfold sizeMove at h
  split at h <;> simp at h <;> subst h <;> decide

theorem emitCas_ends (code : BitVec 2) (ea : EaField) (s : State) : Ends 6 s (emitCas code ea s) :=
  withSize_ends fun _ h => Ends.after (pull16_advances s) (emitToEa_ends (sizeCas_legal h))

/-- MOVE reads at most the words of two effective addresses (30_encoding.md R77). -/
theorem emitMove_ends (code : BitVec 2) (src dst : EaField) (s : State) : Ends 10 s (emitMove code src dst s) :=
  withSize_ends fun m h => Ends.after (resolveEa_advances src m s)
    (Ends.after (resolveEa_advances dst m _) (emit_ends (sizeMove_legal h) noExtra))

theorem emitMovea_ends (code : BitVec 2) (an : RegNum) (ea : EaField) (s : State) :
    Ends 5 s (emitMovea code an ea s) :=
  withSize_ends fun _ h => emitEaTo_ends (sizeMove_legal h)

theorem emitMulL_ends (op : Operation) (ea : EaField) (dl : RegNum) (is64 : Bool) (dh : RegNum) (s : State) :
    Ends 6 s (emitMulL op ea dl is64 dh s) :=
  Ends.after (pull16_advances s) (emitEaTo_ends (by decide))

theorem emitDivL64_ends (op : Operation) (ea : EaField) (dq dr : RegNum) (s : State) :
    Ends 6 s (emitDivL64 op ea dq dr s) :=
  Ends.after (pull16_advances s) (emitEaTo_ends (by decide))

theorem emitDivL32_ends (opQ opR : Operation) (ea : EaField) (dq dr : RegNum) (s : State) :
    Ends 6 s (emitDivL32 opQ opR ea dq dr s) := by
  unfold emitDivL32
  split
  · exact Ends.after (pull16_advances s) (emitEaTo_ends (by decide))
  · exact Ends.after (pull16_advances s) (emitEaTo_ends (by decide))

theorem emitQuick_ends (op : Operation) (data : BitVec 3) (ss : BitVec 2) (ea : EaField) (s : State) :
    Ends 5 s (emitQuick op data ss ea s) :=
  withSize_ends fun _ h => emitToEa_ends (sizeStd_legal h)

theorem emitBranch_ends {op : Operation} {disp : Byte} {x : Option Extra} {s : State}
    (hx : ∀ y, x = some y → y.inRange = true) : Ends 2 s (emitBranch op disp x s) := by
  refine Ends.after (branchDisp_advances disp s) (emit_ends ?_ hx)
  unfold branchDisp
  split
  · simp [legalSizes]
  · split <;> simp [legalSizes]

theorem emitPair_ends {op : Operation} {size : Nat} {rx : RegNum} {mem : Bool} {ry : RegNum} {s : State}
    (hs : size ∈ legalSizes) : Ends 0 s (emitPair op size rx mem ry s) :=
  emit_ends hs noExtra

theorem emitSizedPair_ends (op : Operation) (rx : RegNum) (ss : BitVec 2) (mem : Bool) (ry : RegNum) (s : State) :
    Ends 0 s (emitSizedPair op rx ss mem ry s) :=
  withSize_ends fun _ h => emitPair_ends (sizeStd_legal h)

theorem emitAdjust_ends (op : Operation) (rx : RegNum) (mem : Bool) (ry : RegNum) (s : State) :
    Ends 1 s (emitAdjust op rx mem ry s) :=
  Ends.after (pull16_advances s) (emit_ends (by decide) fun _ h => by cases h; rfl)

theorem emitShift_ends (op : Operation) (cnt : BitVec 3) (ss : BitVec 2) (ir : Bool) (dy : RegNum) (s : State) :
    Ends 0 s (emitShift op cnt ss ir dy s) :=
  withSize_ends fun _ h => emit_ends (sizeStd_legal h) noExtra

theorem emitBf_ends (op : Operation) (ea : EaField) (s : State) : Ends 6 s (emitBf op ea s) :=
  Ends.after (pull16_advances s) (Ends.after (resolveEa_advances ea 0 _)
    (emit_ends (by decide) fun _ h => by cases h; exact bfExtra_inRange _))

theorem emitBfToDn_ends (op : Operation) (ea : EaField) (s : State) : Ends 6 s (emitBfToDn op ea s) :=
  Ends.after (pull16_advances s) (Ends.after (resolveEa_advances ea 0 _)
    (emit_ends (by decide) fun _ h => by cases h; exact bfExtra_inRange _))

theorem emitFpGeneral_ends (op : Operation) (ea : EaField) (rm : Bool) (src : BitVec 3) (dst : Option Operand)
    (s : State) : Ends 6 s (emitFpGeneral op ea rm src dst s) := by
  refine Ends.after (n := 1) (m := 5) (pull16_advances s) ?_
  unfold emitFpGeneral
  dsimp only
  split
  · split
    · exact (raiseError_ends _ _).mono (by omega)
    · exact Ends.after (resolveEa_advances ea _ _)
        (emit_ends (formatSize_legal _) fun _ h => by cases h; rfl)
  · exact (emit_ends (by decide) noExtra).mono (by omega)

theorem emitToCtl_ends (list : BitVec 3) (ea : EaField) (s : State) : Ends 6 s (emitToCtl list ea s) :=
  Ends.after (pull16_advances s) (emitEaTo_ends (by decide))

theorem emitFromCtl_ends (list : BitVec 3) (ea : EaField) (s : State) : Ends 6 s (emitFromCtl list ea s) :=
  Ends.after (pull16_advances s) (emitToEa_ends (by decide))

theorem emitBitImm_ends (op : Operation) (ea : EaField) (s : State) : Ends 6 s (emitBitImm op ea s) :=
  emitByteToEa_ends (bitOpSize_legal ea)

end Sys2Proof.Machine
end

