-- ==== Sys2Proof/Laws/PerInstr.lean ====
section
/-! SUPPORT. Per-instruction family `Words`: every constructor's encoding is one opcode word, or an opcode word and
the guarded second word (30_encoding.md R38, R42). -/
namespace Sys2Proof.Laws

/-- The encoding of an instruction row is its opcode word, followed by the guarded word where the row has a guard. -/
def Words.Statement (i : Instr) : Prop := ∃ w1 : Word, encode i = [w1] ∨ ∃ w2 : Word, encode i = [w1, w2]

theorem Words.oriToCcr : Words.Statement (.oriToCcr) := ⟨_, .inl rfl⟩
theorem Words.oriToSr : Words.Statement (.oriToSr) := ⟨_, .inl rfl⟩
theorem Words.andiToCcr : Words.Statement (.andiToCcr) := ⟨_, .inl rfl⟩
theorem Words.andiToSr : Words.Statement (.andiToSr) := ⟨_, .inl rfl⟩
theorem Words.eoriToCcr : Words.Statement (.eoriToCcr) := ⟨_, .inl rfl⟩
theorem Words.eoriToSr : Words.Statement (.eoriToSr) := ⟨_, .inl rfl⟩
theorem Words.movep (dx : RegNum) (toMem : Bool) (long : Bool) (ay : RegNum) : Words.Statement (.movep dx toMem long ay) := ⟨_, .inl rfl⟩
theorem Words.btstDn (dn : RegNum) (ea : EaField) : Words.Statement (.btstDn dn ea) := ⟨_, .inl rfl⟩
theorem Words.bchgDn (dn : RegNum) (ea : EaField) : Words.Statement (.bchgDn dn ea) := ⟨_, .inl rfl⟩
theorem Words.bclrDn (dn : RegNum) (ea : EaField) : Words.Statement (.bclrDn dn ea) := ⟨_, .inl rfl⟩
theorem Words.bsetDn (dn : RegNum) (ea : EaField) : Words.Statement (.bsetDn dn ea) := ⟨_, .inl rfl⟩
theorem Words.btstImm (ea : EaField) : Words.Statement (.btstImm ea) := ⟨_, .inl rfl⟩
theorem Words.bchgImm (ea : EaField) : Words.Statement (.bchgImm ea) := ⟨_, .inl rfl⟩
theorem Words.bclrImm (ea : EaField) : Words.Statement (.bclrImm ea) := ⟨_, .inl rfl⟩
theorem Words.bsetImm (ea : EaField) : Words.Statement (.bsetImm ea) := ⟨_, .inl rfl⟩
theorem Words.rtm (rn : RegField) : Words.Statement (.rtm rn) := ⟨_, .inl rfl⟩
theorem Words.callm (ea : EaField) : Words.Statement (.callm ea) := ⟨_, .inl rfl⟩
theorem Words.cmp2 (ss : BitVec 2) (ea : EaField) (rn : RegField) : Words.Statement (.cmp2 ss ea rn) := ⟨_, .inr ⟨_, rfl⟩⟩
theorem Words.chk2 (ss : BitVec 2) (ea : EaField) (rn : RegField) : Words.Statement (.chk2 ss ea rn) := ⟨_, .inr ⟨_, rfl⟩⟩
theorem Words.cas2 (long : Bool) : Words.Statement (.cas2 long) := ⟨_, .inl rfl⟩
theorem Words.casB (ea : EaField) : Words.Statement (.casB ea) := ⟨_, .inl rfl⟩
theorem Words.casW (ea : EaField) : Words.Statement (.casW ea) := ⟨_, .inl rfl⟩
theorem Words.casL (ea : EaField) : Words.Statement (.casL ea) := ⟨_, .inl rfl⟩
theorem Words.ori (ss : BitVec 2) (ea : EaField) : Words.Statement (.ori ss ea) := ⟨_, .inl rfl⟩
theorem Words.andi (ss : BitVec 2) (ea : EaField) : Words.Statement (.andi ss ea) := ⟨_, .inl rfl⟩
theorem Words.subi (ss : BitVec 2) (ea : EaField) : Words.Statement (.subi ss ea) := ⟨_, .inl rfl⟩
theorem Words.addi (ss : BitVec 2) (ea : EaField) : Words.Statement (.addi ss ea) := ⟨_, .inl rfl⟩
theorem Words.eori (ss : BitVec 2) (ea : EaField) : Words.Statement (.eori ss ea) := ⟨_, .inl rfl⟩
theorem Words.cmpi (ss : BitVec 2) (ea : EaField) : Words.Statement (.cmpi ss ea) := ⟨_, .inl rfl⟩
theorem Words.moves (ss : BitVec 2) (ea : EaField) : Words.Statement (.moves ss ea) := ⟨_, .inl rfl⟩
theorem Words.moveB (src : EaField) (dst : EaField) : Words.Statement (.moveB src dst) := ⟨_, .inl rfl⟩
theorem Words.moveaL (an : RegNum) (ea : EaField) : Words.Statement (.moveaL an ea) := ⟨_, .inl rfl⟩
theorem Words.moveL (src : EaField) (dst : EaField) : Words.Statement (.moveL src dst) := ⟨_, .inl rfl⟩
theorem Words.moveaW (an : RegNum) (ea : EaField) : Words.Statement (.moveaW an ea) := ⟨_, .inl rfl⟩
theorem Words.moveW (src : EaField) (dst : EaField) : Words.Statement (.moveW src dst) := ⟨_, .inl rfl⟩
theorem Words.illegal : Words.Statement (.illegal) := ⟨_, .inl rfl⟩
theorem Words.bgnd : Words.Statement (.bgnd) := ⟨_, .inl rfl⟩
theorem Words.reset : Words.Statement (.reset) := ⟨_, .inl rfl⟩
theorem Words.nop : Words.Statement (.nop) := ⟨_, .inl rfl⟩
theorem Words.stop : Words.Statement (.stop) := ⟨_, .inl rfl⟩
theorem Words.rte : Words.Statement (.rte) := ⟨_, .inl rfl⟩
theorem Words.rtd : Words.Statement (.rtd) := ⟨_, .inl rfl⟩
theorem Words.rts : Words.Statement (.rts) := ⟨_, .inl rfl⟩
theorem Words.trapv : Words.Statement (.trapv) := ⟨_, .inl rfl⟩
theorem Words.rtr : Words.Statement (.rtr) := ⟨_, .inl rfl⟩
theorem Words.movecFrom : Words.Statement (.movecFrom) := ⟨_, .inl rfl⟩
theorem Words.movecTo : Words.Statement (.movecTo) := ⟨_, .inl rfl⟩
theorem Words.trap (vector : BitVec 4) : Words.Statement (.trap vector) := ⟨_, .inl rfl⟩
theorem Words.linkW (an : RegNum) : Words.Statement (.linkW an) := ⟨_, .inl rfl⟩
theorem Words.unlk (an : RegNum) : Words.Statement (.unlk an) := ⟨_, .inl rfl⟩
theorem Words.moveToUsp (an : RegNum) : Words.Statement (.moveToUsp an) := ⟨_, .inl rfl⟩
theorem Words.moveFromUsp (an : RegNum) : Words.Statement (.moveFromUsp an) := ⟨_, .inl rfl⟩
theorem Words.jsr (ea : EaField) : Words.Statement (.jsr ea) := ⟨_, .inl rfl⟩
theorem Words.jmp (ea : EaField) : Words.Statement (.jmp ea) := ⟨_, .inl rfl⟩
theorem Words.linkL (an : RegNum) : Words.Statement (.linkL an) := ⟨_, .inl rfl⟩
theorem Words.nbcd (ea : EaField) : Words.Statement (.nbcd ea) := ⟨_, .inl rfl⟩
theorem Words.swap (dn : RegNum) : Words.Statement (.swap dn) := ⟨_, .inl rfl⟩
theorem Words.bkpt (vector : BitVec 3) : Words.Statement (.bkpt vector) := ⟨_, .inl rfl⟩
theorem Words.pea (ea : EaField) : Words.Statement (.pea ea) := ⟨_, .inl rfl⟩
theorem Words.extW (dn : RegNum) : Words.Statement (.extW dn) := ⟨_, .inl rfl⟩
theorem Words.extL (dn : RegNum) : Words.Statement (.extL dn) := ⟨_, .inl rfl⟩
theorem Words.extbL (dn : RegNum) : Words.Statement (.extbL dn) := ⟨_, .inl rfl⟩
theorem Words.movemStore (long : Bool) (ea : EaField) : Words.Statement (.movemStore long ea) := ⟨_, .inl rfl⟩
theorem Words.movemLoad (long : Bool) (ea : EaField) : Words.Statement (.movemLoad long ea) := ⟨_, .inl rfl⟩
theorem Words.moveFromSr (ea : EaField) : Words.Statement (.moveFromSr ea) := ⟨_, .inl rfl⟩
theorem Words.moveFromCcr (ea : EaField) : Words.Statement (.moveFromCcr ea) := ⟨_, .inl rfl⟩
theorem Words.moveToCcr (ea : EaField) : Words.Statement (.moveToCcr ea) := ⟨_, .inl rfl⟩
theorem Words.moveToSr (ea : EaField) : Words.Statement (.moveToSr ea) := ⟨_, .inl rfl⟩
theorem Words.negx (ss : BitVec 2) (ea : EaField) : Words.Statement (.negx ss ea) := ⟨_, .inl rfl⟩
theorem Words.clr (ss : BitVec 2) (ea : EaField) : Words.Statement (.clr ss ea) := ⟨_, .inl rfl⟩
theorem Words.neg (ss : BitVec 2) (ea : EaField) : Words.Statement (.neg ss ea) := ⟨_, .inl rfl⟩
theorem Words.not (ss : BitVec 2) (ea : EaField) : Words.Statement (.not ss ea) := ⟨_, .inl rfl⟩
theorem Words.tas (ea : EaField) : Words.Statement (.tas ea) := ⟨_, .inl rfl⟩
theorem Words.tst (ss : BitVec 2) (ea : EaField) : Words.Statement (.tst ss ea) := ⟨_, .inl rfl⟩
theorem Words.muluL (ea : EaField) (dl : RegNum) (is64 : Bool) (dh : RegNum) : Words.Statement (.muluL ea dl is64 dh) := ⟨_, .inr ⟨_, rfl⟩⟩
theorem Words.mulsL (ea : EaField) (dl : RegNum) (is64 : Bool) (dh : RegNum) : Words.Statement (.mulsL ea dl is64 dh) := ⟨_, .inr ⟨_, rfl⟩⟩
theorem Words.divuL64 (ea : EaField) (dq : RegNum) (dr : RegNum) : Words.Statement (.divuL64 ea dq dr) := ⟨_, .inr ⟨_, rfl⟩⟩
theorem Words.divuL32 (ea : EaField) (dq : RegNum) (dr : RegNum) : Words.Statement (.divuL32 ea dq dr) := ⟨_, .inr ⟨_, rfl⟩⟩
theorem Words.divsL64 (ea : EaField) (dq : RegNum) (dr : RegNum) : Words.Statement (.divsL64 ea dq dr) := ⟨_, .inr ⟨_, rfl⟩⟩
theorem Words.divsL32 (ea : EaField) (dq : RegNum) (dr : RegNum) : Words.Statement (.divsL32 ea dq dr) := ⟨_, .inr ⟨_, rfl⟩⟩
theorem Words.chkL (dn : RegNum) (ea : EaField) : Words.Statement (.chkL dn ea) := ⟨_, .inl rfl⟩
theorem Words.chkW (dn : RegNum) (ea : EaField) : Words.Statement (.chkW dn ea) := ⟨_, .inl rfl⟩
theorem Words.lea (an : RegNum) (ea : EaField) : Words.Statement (.lea an ea) := ⟨_, .inl rfl⟩
theorem Words.dbcc (cond : BitVec 4) (dn : RegNum) : Words.Statement (.dbcc cond dn) := ⟨_, .inl rfl⟩
theorem Words.trapccW (cond : BitVec 4) : Words.Statement (.trapccW cond) := ⟨_, .inl rfl⟩
theorem Words.trapccL (cond : BitVec 4) : Words.Statement (.trapccL cond) := ⟨_, .inl rfl⟩
theorem Words.trapcc (cond : BitVec 4) : Words.Statement (.trapcc cond) := ⟨_, .inl rfl⟩
theorem Words.scc (cond : BitVec 4) (ea : EaField) : Words.Statement (.scc cond ea) := ⟨_, .inl rfl⟩
theorem Words.addq (data : BitVec 3) (ss : BitVec 2) (ea : EaField) : Words.Statement (.addq data ss ea) := ⟨_, .inl rfl⟩
theorem Words.subq (data : BitVec 3) (ss : BitVec 2) (ea : EaField) : Words.Statement (.subq data ss ea) := ⟨_, .inl rfl⟩
theorem Words.bra (disp : Byte) : Words.Statement (.bra disp) := ⟨_, .inl rfl⟩
theorem Words.bsr (disp : Byte) : Words.Statement (.bsr disp) := ⟨_, .inl rfl⟩
theorem Words.bcc (cond : BitVec 4) (disp : Byte) : Words.Statement (.bcc cond disp) := ⟨_, .inl rfl⟩
theorem Words.moveq (dn : RegNum) (data : Byte) : Words.Statement (.moveq dn data) := ⟨_, .inl rfl⟩
theorem Words.divuW (dn : RegNum) (ea : EaField) : Words.Statement (.divuW dn ea) := ⟨_, .inl rfl⟩
theorem Words.divsW (dn : RegNum) (ea : EaField) : Words.Statement (.divsW dn ea) := ⟨_, .inl rfl⟩
theorem Words.sbcd (rx : RegNum) (mem : Bool) (ry : RegNum) : Words.Statement (.sbcd rx mem ry) := ⟨_, .inl rfl⟩
theorem Words.pack (rx : RegNum) (mem : Bool) (ry : RegNum) : Words.Statement (.pack rx mem ry) := ⟨_, .inl rfl⟩
theorem Words.unpk (rx : RegNum) (mem : Bool) (ry : RegNum) : Words.Statement (.unpk rx mem ry) := ⟨_, .inl rfl⟩
theorem Words.or (dn : RegNum) (toEa : Bool) (ss : BitVec 2) (ea : EaField) : Words.Statement (.or dn toEa ss ea) := ⟨_, .inl rfl⟩
theorem Words.suba (an : RegNum) (long : Bool) (ea : EaField) : Words.Statement (.suba an long ea) := ⟨_, .inl rfl⟩
theorem Words.subx (rx : RegNum) (ss : BitVec 2) (mem : Bool) (ry : RegNum) : Words.Statement (.subx rx ss mem ry) := ⟨_, .inl rfl⟩
theorem Words.sub (dn : RegNum) (toEa : Bool) (ss : BitVec 2) (ea : EaField) : Words.Statement (.sub dn toEa ss ea) := ⟨_, .inl rfl⟩
theorem Words.cmpa (an : RegNum) (long : Bool) (ea : EaField) : Words.Statement (.cmpa an long ea) := ⟨_, .inl rfl⟩
theorem Words.cmpm (ax : RegNum) (ss : BitVec 2) (ay : RegNum) : Words.Statement (.cmpm ax ss ay) := ⟨_, .inl rfl⟩
theorem Words.cmp (dn : RegNum) (ss : BitVec 2) (ea : EaField) : Words.Statement (.cmp dn ss ea) := ⟨_, .inl rfl⟩
theorem Words.eor (dn : RegNum) (ss : BitVec 2) (ea : EaField) : Words.Statement (.eor dn ss ea) := ⟨_, .inl rfl⟩
theorem Words.muluW (dn : RegNum) (ea : EaField) : Words.Statement (.muluW dn ea) := ⟨_, .inl rfl⟩
theorem Words.mulsW (dn : RegNum) (ea : EaField) : Words.Statement (.mulsW dn ea) := ⟨_, .inl rfl⟩
theorem Words.abcd (rx : RegNum) (mem : Bool) (ry : RegNum) : Words.Statement (.abcd rx mem ry) := ⟨_, .inl rfl⟩
theorem Words.exgDD (rx : RegNum) (ry : RegNum) : Words.Statement (.exgDD rx ry) := ⟨_, .inl rfl⟩
theorem Words.exgAA (rx : RegNum) (ry : RegNum) : Words.Statement (.exgAA rx ry) := ⟨_, .inl rfl⟩
theorem Words.exgDA (rx : RegNum) (ry : RegNum) : Words.Statement (.exgDA rx ry) := ⟨_, .inl rfl⟩
theorem Words.and (dn : RegNum) (toEa : Bool) (ss : BitVec 2) (ea : EaField) : Words.Statement (.and dn toEa ss ea) := ⟨_, .inl rfl⟩
theorem Words.adda (an : RegNum) (long : Bool) (ea : EaField) : Words.Statement (.adda an long ea) := ⟨_, .inl rfl⟩
theorem Words.addx (rx : RegNum) (ss : BitVec 2) (mem : Bool) (ry : RegNum) : Words.Statement (.addx rx ss mem ry) := ⟨_, .inl rfl⟩
theorem Words.add (dn : RegNum) (toEa : Bool) (ss : BitVec 2) (ea : EaField) : Words.Statement (.add dn toEa ss ea) := ⟨_, .inl rfl⟩
theorem Words.bftst (ea : EaField) : Words.Statement (.bftst ea) := ⟨_, .inl rfl⟩
theorem Words.bfextu (ea : EaField) : Words.Statement (.bfextu ea) := ⟨_, .inl rfl⟩
theorem Words.bfchg (ea : EaField) : Words.Statement (.bfchg ea) := ⟨_, .inl rfl⟩
theorem Words.bfexts (ea : EaField) : Words.Statement (.bfexts ea) := ⟨_, .inl rfl⟩
theorem Words.bfclr (ea : EaField) : Words.Statement (.bfclr ea) := ⟨_, .inl rfl⟩
theorem Words.bfffo (ea : EaField) : Words.Statement (.bfffo ea) := ⟨_, .inl rfl⟩
theorem Words.bfset (ea : EaField) : Words.Statement (.bfset ea) := ⟨_, .inl rfl⟩
theorem Words.bfins (ea : EaField) : Words.Statement (.bfins ea) := ⟨_, .inl rfl⟩
theorem Words.asrEa (ea : EaField) : Words.Statement (.asrEa ea) := ⟨_, .inl rfl⟩
theorem Words.aslEa (ea : EaField) : Words.Statement (.aslEa ea) := ⟨_, .inl rfl⟩
theorem Words.lsrEa (ea : EaField) : Words.Statement (.lsrEa ea) := ⟨_, .inl rfl⟩
theorem Words.lslEa (ea : EaField) : Words.Statement (.lslEa ea) := ⟨_, .inl rfl⟩
theorem Words.roxrEa (ea : EaField) : Words.Statement (.roxrEa ea) := ⟨_, .inl rfl⟩
theorem Words.roxlEa (ea : EaField) : Words.Statement (.roxlEa ea) := ⟨_, .inl rfl⟩
theorem Words.rorEa (ea : EaField) : Words.Statement (.rorEa ea) := ⟨_, .inl rfl⟩
theorem Words.rolEa (ea : EaField) : Words.Statement (.rolEa ea) := ⟨_, .inl rfl⟩
theorem Words.asrDy (cnt : BitVec 3) (ss : BitVec 2) (ir : Bool) (dy : RegNum) : Words.Statement (.asrDy cnt ss ir dy) := ⟨_, .inl rfl⟩
theorem Words.aslDy (cnt : BitVec 3) (ss : BitVec 2) (ir : Bool) (dy : RegNum) : Words.Statement (.aslDy cnt ss ir dy) := ⟨_, .inl rfl⟩
theorem Words.lsrDy (cnt : BitVec 3) (ss : BitVec 2) (ir : Bool) (dy : RegNum) : Words.Statement (.lsrDy cnt ss ir dy) := ⟨_, .inl rfl⟩
theorem Words.lslDy (cnt : BitVec 3) (ss : BitVec 2) (ir : Bool) (dy : RegNum) : Words.Statement (.lslDy cnt ss ir dy) := ⟨_, .inl rfl⟩
theorem Words.roxrDy (cnt : BitVec 3) (ss : BitVec 2) (ir : Bool) (dy : RegNum) : Words.Statement (.roxrDy cnt ss ir dy) := ⟨_, .inl rfl⟩
theorem Words.roxlDy (cnt : BitVec 3) (ss : BitVec 2) (ir : Bool) (dy : RegNum) : Words.Statement (.roxlDy cnt ss ir dy) := ⟨_, .inl rfl⟩
theorem Words.rorDy (cnt : BitVec 3) (ss : BitVec 2) (ir : Bool) (dy : RegNum) : Words.Statement (.rorDy cnt ss ir dy) := ⟨_, .inl rfl⟩
theorem Words.rolDy (cnt : BitVec 3) (ss : BitVec 2) (ir : Bool) (dy : RegNum) : Words.Statement (.rolDy cnt ss ir dy) := ⟨_, .inl rfl⟩
theorem Words.fmovecr (dst : RegNum) (off : BitVec 7) : Words.Statement (.fmovecr dst off) := ⟨_, .inr ⟨_, rfl⟩⟩
theorem Words.fmove (ea : EaField) (rm : Bool) (src : RegNum) (dst : RegNum) : Words.Statement (.fmove ea rm src dst) := ⟨_, .inr ⟨_, rfl⟩⟩
theorem Words.fint (ea : EaField) (rm : Bool) (src : RegNum) (dst : RegNum) : Words.Statement (.fint ea rm src dst) := ⟨_, .inr ⟨_, rfl⟩⟩
theorem Words.fsinh (ea : EaField) (rm : Bool) (src : RegNum) (dst : RegNum) : Words.Statement (.fsinh ea rm src dst) := ⟨_, .inr ⟨_, rfl⟩⟩
theorem Words.fintrz (ea : EaField) (rm : Bool) (src : RegNum) (dst : RegNum) : Words.Statement (.fintrz ea rm src dst) := ⟨_, .inr ⟨_, rfl⟩⟩
theorem Words.fsqrt (ea : EaField) (rm : Bool) (src : RegNum) (dst : RegNum) : Words.Statement (.fsqrt ea rm src dst) := ⟨_, .inr ⟨_, rfl⟩⟩
theorem Words.flognp1 (ea : EaField) (rm : Bool) (src : RegNum) (dst : RegNum) : Words.Statement (.flognp1 ea rm src dst) := ⟨_, .inr ⟨_, rfl⟩⟩
theorem Words.fetoxm1 (ea : EaField) (rm : Bool) (src : RegNum) (dst : RegNum) : Words.Statement (.fetoxm1 ea rm src dst) := ⟨_, .inr ⟨_, rfl⟩⟩
theorem Words.ftanh (ea : EaField) (rm : Bool) (src : RegNum) (dst : RegNum) : Words.Statement (.ftanh ea rm src dst) := ⟨_, .inr ⟨_, rfl⟩⟩
theorem Words.fatan (ea : EaField) (rm : Bool) (src : RegNum) (dst : RegNum) : Words.Statement (.fatan ea rm src dst) := ⟨_, .inr ⟨_, rfl⟩⟩
theorem Words.fasin (ea : EaField) (rm : Bool) (src : RegNum) (dst : RegNum) : Words.Statement (.fasin ea rm src dst) := ⟨_, .inr ⟨_, rfl⟩⟩
theorem Words.fatanh (ea : EaField) (rm : Bool) (src : RegNum) (dst : RegNum) : Words.Statement (.fatanh ea rm src dst) := ⟨_, .inr ⟨_, rfl⟩⟩
theorem Words.fsin (ea : EaField) (rm : Bool) (src : RegNum) (dst : RegNum) : Words.Statement (.fsin ea rm src dst) := ⟨_, .inr ⟨_, rfl⟩⟩
theorem Words.ftan (ea : EaField) (rm : Bool) (src : RegNum) (dst : RegNum) : Words.Statement (.ftan ea rm src dst) := ⟨_, .inr ⟨_, rfl⟩⟩
theorem Words.fetox (ea : EaField) (rm : Bool) (src : RegNum) (dst : RegNum) : Words.Statement (.fetox ea rm src dst) := ⟨_, .inr ⟨_, rfl⟩⟩
theorem Words.ftwotox (ea : EaField) (rm : Bool) (src : RegNum) (dst : RegNum) : Words.Statement (.ftwotox ea rm src dst) := ⟨_, .inr ⟨_, rfl⟩⟩
theorem Words.ftentox (ea : EaField) (rm : Bool) (src : RegNum) (dst : RegNum) : Words.Statement (.ftentox ea rm src dst) := ⟨_, .inr ⟨_, rfl⟩⟩
theorem Words.flogn (ea : EaField) (rm : Bool) (src : RegNum) (dst : RegNum) : Words.Statement (.flogn ea rm src dst) := ⟨_, .inr ⟨_, rfl⟩⟩
theorem Words.flog10 (ea : EaField) (rm : Bool) (src : RegNum) (dst : RegNum) : Words.Statement (.flog10 ea rm src dst) := ⟨_, .inr ⟨_, rfl⟩⟩
theorem Words.flog2 (ea : EaField) (rm : Bool) (src : RegNum) (dst : RegNum) : Words.Statement (.flog2 ea rm src dst) := ⟨_, .inr ⟨_, rfl⟩⟩
theorem Words.fabs (ea : EaField) (rm : Bool) (src : RegNum) (dst : RegNum) : Words.Statement (.fabs ea rm src dst) := ⟨_, .inr ⟨_, rfl⟩⟩
theorem Words.fcosh (ea : EaField) (rm : Bool) (src : RegNum) (dst : RegNum) : Words.Statement (.fcosh ea rm src dst) := ⟨_, .inr ⟨_, rfl⟩⟩
theorem Words.fneg (ea : EaField) (rm : Bool) (src : RegNum) (dst : RegNum) : Words.Statement (.fneg ea rm src dst) := ⟨_, .inr ⟨_, rfl⟩⟩
theorem Words.facos (ea : EaField) (rm : Bool) (src : RegNum) (dst : RegNum) : Words.Statement (.facos ea rm src dst) := ⟨_, .inr ⟨_, rfl⟩⟩
theorem Words.fcos (ea : EaField) (rm : Bool) (src : RegNum) (dst : RegNum) : Words.Statement (.fcos ea rm src dst) := ⟨_, .inr ⟨_, rfl⟩⟩
theorem Words.fgetexp (ea : EaField) (rm : Bool) (src : RegNum) (dst : RegNum) : Words.Statement (.fgetexp ea rm src dst) := ⟨_, .inr ⟨_, rfl⟩⟩
theorem Words.fgetman (ea : EaField) (rm : Bool) (src : RegNum) (dst : RegNum) : Words.Statement (.fgetman ea rm src dst) := ⟨_, .inr ⟨_, rfl⟩⟩
theorem Words.fdiv (ea : EaField) (rm : Bool) (src : RegNum) (dst : RegNum) : Words.Statement (.fdiv ea rm src dst) := ⟨_, .inr ⟨_, rfl⟩⟩
theorem Words.fmod (ea : EaField) (rm : Bool) (src : RegNum) (dst : RegNum) : Words.Statement (.fmod ea rm src dst) := ⟨_, .inr ⟨_, rfl⟩⟩
theorem Words.fadd (ea : EaField) (rm : Bool) (src : RegNum) (dst : RegNum) : Words.Statement (.fadd ea rm src dst) := ⟨_, .inr ⟨_, rfl⟩⟩
theorem Words.fmul (ea : EaField) (rm : Bool) (src : RegNum) (dst : RegNum) : Words.Statement (.fmul ea rm src dst) := ⟨_, .inr ⟨_, rfl⟩⟩
theorem Words.fsgldiv (ea : EaField) (rm : Bool) (src : RegNum) (dst : RegNum) : Words.Statement (.fsgldiv ea rm src dst) := ⟨_, .inr ⟨_, rfl⟩⟩
theorem Words.frem (ea : EaField) (rm : Bool) (src : RegNum) (dst : RegNum) : Words.Statement (.frem ea rm src dst) := ⟨_, .inr ⟨_, rfl⟩⟩
theorem Words.fscale (ea : EaField) (rm : Bool) (src : RegNum) (dst : RegNum) : Words.Statement (.fscale ea rm src dst) := ⟨_, .inr ⟨_, rfl⟩⟩
theorem Words.fsglmul (ea : EaField) (rm : Bool) (src : RegNum) (dst : RegNum) : Words.Statement (.fsglmul ea rm src dst) := ⟨_, .inr ⟨_, rfl⟩⟩
theorem Words.fsub (ea : EaField) (rm : Bool) (src : RegNum) (dst : RegNum) : Words.Statement (.fsub ea rm src dst) := ⟨_, .inr ⟨_, rfl⟩⟩
theorem Words.fsincos (ea : EaField) (rm : Bool) (src : RegNum) (fps : RegNum) (fpc : RegNum) : Words.Statement (.fsincos ea rm src fps fpc) := ⟨_, .inr ⟨_, rfl⟩⟩
theorem Words.fcmp (ea : EaField) (rm : Bool) (src : RegNum) (dst : RegNum) : Words.Statement (.fcmp ea rm src dst) := ⟨_, .inr ⟨_, rfl⟩⟩
theorem Words.ftst (ea : EaField) (rm : Bool) (src : RegNum) : Words.Statement (.ftst ea rm src) := ⟨_, .inr ⟨_, rfl⟩⟩
theorem Words.fsmove (ea : EaField) (rm : Bool) (src : RegNum) (dst : RegNum) : Words.Statement (.fsmove ea rm src dst) := ⟨_, .inr ⟨_, rfl⟩⟩
theorem Words.fssqrt (ea : EaField) (rm : Bool) (src : RegNum) (dst : RegNum) : Words.Statement (.fssqrt ea rm src dst) := ⟨_, .inr ⟨_, rfl⟩⟩
theorem Words.fdmove (ea : EaField) (rm : Bool) (src : RegNum) (dst : RegNum) : Words.Statement (.fdmove ea rm src dst) := ⟨_, .inr ⟨_, rfl⟩⟩
theorem Words.fdsqrt (ea : EaField) (rm : Bool) (src : RegNum) (dst : RegNum) : Words.Statement (.fdsqrt ea rm src dst) := ⟨_, .inr ⟨_, rfl⟩⟩
theorem Words.fsabs (ea : EaField) (rm : Bool) (src : RegNum) (dst : RegNum) : Words.Statement (.fsabs ea rm src dst) := ⟨_, .inr ⟨_, rfl⟩⟩
theorem Words.fsneg (ea : EaField) (rm : Bool) (src : RegNum) (dst : RegNum) : Words.Statement (.fsneg ea rm src dst) := ⟨_, .inr ⟨_, rfl⟩⟩
theorem Words.fdabs (ea : EaField) (rm : Bool) (src : RegNum) (dst : RegNum) : Words.Statement (.fdabs ea rm src dst) := ⟨_, .inr ⟨_, rfl⟩⟩
theorem Words.fdneg (ea : EaField) (rm : Bool) (src : RegNum) (dst : RegNum) : Words.Statement (.fdneg ea rm src dst) := ⟨_, .inr ⟨_, rfl⟩⟩
theorem Words.fsdiv (ea : EaField) (rm : Bool) (src : RegNum) (dst : RegNum) : Words.Statement (.fsdiv ea rm src dst) := ⟨_, .inr ⟨_, rfl⟩⟩
theorem Words.fsadd (ea : EaField) (rm : Bool) (src : RegNum) (dst : RegNum) : Words.Statement (.fsadd ea rm src dst) := ⟨_, .inr ⟨_, rfl⟩⟩
theorem Words.fsmul (ea : EaField) (rm : Bool) (src : RegNum) (dst : RegNum) : Words.Statement (.fsmul ea rm src dst) := ⟨_, .inr ⟨_, rfl⟩⟩
theorem Words.fddiv (ea : EaField) (rm : Bool) (src : RegNum) (dst : RegNum) : Words.Statement (.fddiv ea rm src dst) := ⟨_, .inr ⟨_, rfl⟩⟩
theorem Words.fdadd (ea : EaField) (rm : Bool) (src : RegNum) (dst : RegNum) : Words.Statement (.fdadd ea rm src dst) := ⟨_, .inr ⟨_, rfl⟩⟩
theorem Words.fdmul (ea : EaField) (rm : Bool) (src : RegNum) (dst : RegNum) : Words.Statement (.fdmul ea rm src dst) := ⟨_, .inr ⟨_, rfl⟩⟩
theorem Words.fssub (ea : EaField) (rm : Bool) (src : RegNum) (dst : RegNum) : Words.Statement (.fssub ea rm src dst) := ⟨_, .inr ⟨_, rfl⟩⟩
theorem Words.fdsub (ea : EaField) (rm : Bool) (src : RegNum) (dst : RegNum) : Words.Statement (.fdsub ea rm src dst) := ⟨_, .inr ⟨_, rfl⟩⟩
theorem Words.fmoveToEa (ea : EaField) (fmt : BitVec 3) (fpm : RegNum) (k : BitVec 7) : Words.Statement (.fmoveToEa ea fmt fpm k) := ⟨_, .inr ⟨_, rfl⟩⟩
theorem Words.fmoveToFpcr (ea : EaField) : Words.Statement (.fmoveToFpcr ea) := ⟨_, .inr ⟨_, rfl⟩⟩
theorem Words.fmoveToFpsr (ea : EaField) : Words.Statement (.fmoveToFpsr ea) := ⟨_, .inr ⟨_, rfl⟩⟩
theorem Words.fmoveToFpiar (ea : EaField) : Words.Statement (.fmoveToFpiar ea) := ⟨_, .inr ⟨_, rfl⟩⟩
theorem Words.fmoveFromFpcr (ea : EaField) : Words.Statement (.fmoveFromFpcr ea) := ⟨_, .inr ⟨_, rfl⟩⟩
theorem Words.fmoveFromFpsr (ea : EaField) : Words.Statement (.fmoveFromFpsr ea) := ⟨_, .inr ⟨_, rfl⟩⟩
theorem Words.fmoveFromFpiar (ea : EaField) : Words.Statement (.fmoveFromFpiar ea) := ⟨_, .inr ⟨_, rfl⟩⟩
theorem Words.fmovemToCtl (ea : EaField) (list : BitVec 3) : Words.Statement (.fmovemToCtl ea list) := ⟨_, .inr ⟨_, rfl⟩⟩
theorem Words.fmovemFromCtl (ea : EaField) (list : BitVec 3) : Words.Statement (.fmovemFromCtl ea list) := ⟨_, .inr ⟨_, rfl⟩⟩
theorem Words.fmovemToFp (ea : EaField) (mode : BitVec 2) (list : Byte) : Words.Statement (.fmovemToFp ea mode list) := ⟨_, .inr ⟨_, rfl⟩⟩
theorem Words.fmovemFromFp (ea : EaField) (mode : BitVec 2) (list : Byte) : Words.Statement (.fmovemFromFp ea mode list) := ⟨_, .inr ⟨_, rfl⟩⟩
theorem Words.fdbcc (dn : RegNum) : Words.Statement (.fdbcc dn) := ⟨_, .inl rfl⟩
theorem Words.ftrapccW : Words.Statement (.ftrapccW) := ⟨_, .inl rfl⟩
theorem Words.ftrapccL : Words.Statement (.ftrapccL) := ⟨_, .inl rfl⟩
theorem Words.ftrapcc : Words.Statement (.ftrapcc) := ⟨_, .inl rfl⟩
theorem Words.fscc (ea : EaField) : Words.Statement (.fscc ea) := ⟨_, .inl rfl⟩
theorem Words.fnop : Words.Statement (.fnop) := ⟨_, .inr ⟨_, rfl⟩⟩
theorem Words.fbccW (cond : BitVec 6) : Words.Statement (.fbccW cond) := ⟨_, .inl rfl⟩
theorem Words.fbccL (cond : BitVec 6) : Words.Statement (.fbccL cond) := ⟨_, .inl rfl⟩
theorem Words.fsave (ea : EaField) : Words.Statement (.fsave ea) := ⟨_, .inl rfl⟩
theorem Words.frestore (ea : EaField) : Words.Statement (.frestore ea) := ⟨_, .inl rfl⟩

end Sys2Proof.Laws
end

