-- ==== Sys2Proof/Laws/Reads.lean ====
section
/-! SUPPORT. What the reads of a builder can do (30_encoding.md R39), and what the ends of a call answer where an error
is recorded (60_exceptions.md R301). -/
namespace Sys2Proof.Machine

@[simp] theorem runReads_nil (s : State) : runReads [] s = s := rfl
@[simp] theorem runReads_cons (r : Read) (rs : List Read) (s : State) :
    runReads (r :: rs) s = runReads rs (runRead r s) := rfl

theorem runReads_append (xs ys : List Read) (s : State) :
    runReads (xs ++ ys) s = runReads ys (runReads xs s) := by
  induction xs generalizing s with
  | nil => rfl
  | cons r rs ih => exact ih (runRead r s)

/-- A read keeps the error recorded before it, the buffer and the result (10_state.md R6). -/
theorem runRead_keeps (r : Read) (s : State) :
    (runRead r s).buf = s.buf ∧ (runRead r s).result = s.result ∧
      ∀ k, s.err = some k → (runRead r s).err = some k := by
  cases r with
  | word => exact ⟨(pull16_advances s).buf, (pull16_advances s).result, (pull16_advances s).sticky⟩
  | long => exact ⟨(pull32_advances s).buf, (pull32_advances s).result, (pull32_advances s).sticky⟩
  | skip => exact ⟨rfl, rfl, fun _ h => h⟩
  | imm n => exact ⟨(readImm_advances n s).buf, (readImm_advances n s).result, (readImm_advances n s).sticky⟩
  | ea f n => exact ⟨(resolveEa_advances f n s).buf, (resolveEa_advances f n s).result,
      (resolveEa_advances f n s).sticky⟩

/-- The reads of a builder keep the error recorded before them, the buffer and the result. -/
theorem runReads_keeps (rs : List Read) (s : State) :
    (runReads rs s).buf = s.buf ∧ (runReads rs s).result = s.result ∧
      ∀ k, s.err = some k → (runReads rs s).err = some k := by
  induction rs generalizing s with
  | nil => exact ⟨rfl, rfl, fun _ h => h⟩
  | cons r rs ih =>
    obtain ⟨b, c, e⟩ := runRead_keeps r s
    obtain ⟨b', c', e'⟩ := ih (runRead r s)
    exact ⟨b'.trans b, c'.trans c, fun k h => e' k (e k h)⟩

/-! The ends of a call where an error is recorded. -/

theorem emit_failed {op : Operation} {size : Nat} {o0 o1 : Option Operand} {x : Option Extra} {s : State}
    {k : ErrorKind} (h : s.err = some k) : emit op size o0 o1 x s = failed k s := by
  rw [emit_of_some h, failed, ← h]

theorem raiseError_failed {e k : ErrorKind} {s : State} (h : s.err = some k) : raiseError e s = failed k s := by
  rw [raiseError_eq, failed, h]
  rfl

end Sys2Proof.Machine
end

