-- ==== Sys2Proof/Tests/Slice0.lean ====
section
/-! SUPPORT. Tests of the decoder, each a named theorem: a refused ill-formed term for each check of WellFormed, a
word of every row written out from its encoding line, the decode calls of the spec's examples and vectors, and for each
statement with hypotheses a concrete state and operands that meet them. -/
namespace Sys2Proof.Machine

/-! One test after the other: the kernel evaluates each, and side by side they would need too much memory. -/
set_option Elab.async false

/-! Helpers. -/

/-- The bytes of a list of words, high byte first. -/
def bytesOfWords (ws : List Word) : List Byte := ws.flatMap fun w => [w.extractLsb' 8 8, w.setWidth 8]

/-- A call on the NOP word and these words, just after the opcode word. -/
def atWords (ws : List Word) : State := { stateOf (bytesOfWords (0x4E71 :: ws)) with pos := 2 }

/-- The result in a step's next state. -/
def resultOf : StepResult → Option CallResult
  | .next t => t.result
  | .fault _ => none
  | .refused _ => none

/-! Well-formedness: a term that each check refuses. -/

theorem test_wf_refuses_size_code_11 :
    ([Instr.ori 3 ⟨0, 0⟩, .cmp2 3 ⟨2, 0⟩ ⟨false, 0⟩, .addq 1 3 ⟨0, 0⟩, .cmpm 0 3 0, .asrDy 0 3 false 0]).all (fun i => !i.wf) = true := by
  decide +kernel
theorem test_wf_refuses_movep_mode :
    ([Instr.btstDn 0 ⟨1, 0⟩, .bchgDn 0 ⟨1, 0⟩, .bclrDn 0 ⟨1, 0⟩, .bsetDn 0 ⟨1, 0⟩]).all (fun i => !i.wf) = true := by
  decide +kernel
theorem test_wf_refuses_callm_registers :
    ([Instr.callm ⟨0, 0⟩, .callm ⟨1, 0⟩]).all (fun i => !i.wf) = true := by
  decide +kernel
theorem test_wf_refuses_cas2_words :
    ([Instr.casW ⟨7, 4⟩, .casL ⟨7, 4⟩]).all (fun i => !i.wf) = true := by
  decide +kernel
theorem test_wf_refuses_ccr_sr_words :
    ([Instr.ori 0 ⟨7, 4⟩, .ori 1 ⟨7, 4⟩, .andi 0 ⟨7, 4⟩, .andi 1 ⟨7, 4⟩, .eori 0 ⟨7, 4⟩, .eori 1 ⟨7, 4⟩]).all (fun i => !i.wf) = true := by
  decide +kernel
theorem test_wf_refuses_movea_destination :
    ([Instr.moveL ⟨0, 0⟩ ⟨1, 0⟩, .moveW ⟨0, 0⟩ ⟨1, 0⟩]).all (fun i => !i.wf) = true := by
  decide +kernel
theorem test_wf_refuses_link_swap_bkpt_ext :
    ([Instr.nbcd ⟨1, 0⟩, .pea ⟨0, 0⟩, .pea ⟨1, 0⟩, .movemStore false ⟨0, 0⟩, .lea 4 ⟨0, 0⟩]).all (fun i => !i.wf) = true := by
  decide +kernel
theorem test_wf_refuses_illegal_bgnd :
    ([Instr.tas ⟨7, 2⟩, .tas ⟨7, 4⟩]).all (fun i => !i.wf) = true := by
  decide +kernel
theorem test_wf_refuses_dbcc_trapcc :
    ([Instr.scc 0 ⟨1, 0⟩, .scc 0 ⟨7, 2⟩, .scc 0 ⟨7, 3⟩, .scc 0 ⟨7, 4⟩, .fscc ⟨1, 0⟩, .fscc ⟨7, 2⟩, .fscc ⟨7, 3⟩,
    .fscc ⟨7, 4⟩]).all (fun i => !i.wf) = true := by
  decide +kernel
theorem test_wf_refuses_bra_bsr :
    ([Instr.bcc 0 2, .bcc 1 2]).all (fun i => !i.wf) = true := by
  decide +kernel
theorem test_wf_refuses_register_pairs :
    ([Instr.or 0 true 0 ⟨0, 0⟩, .sub 0 true 0 ⟨1, 0⟩, .add 0 true 2 ⟨0, 0⟩, .and 0 true 0 ⟨1, 0⟩, .and 0 true 1 ⟨0, 0⟩,
    .and 0 true 2 ⟨1, 0⟩, .eor 0 0 ⟨1, 0⟩]).all (fun i => !i.wf) = true := by
  decide +kernel
theorem test_wf_refuses_rom_constant :
    ([Instr.fmove ⟨0, 0⟩ true 7 0, .ftst ⟨0, 0⟩ true 7, .fsincos ⟨0, 0⟩ true 7 0 0]).all (fun i => !i.wf) = true := by
  decide +kernel
theorem test_wf_refuses_one_register_list :
    ([Instr.fmovemToCtl ⟨2, 0⟩ 1, .fmovemToCtl ⟨2, 0⟩ 2, .fmovemFromCtl ⟨2, 0⟩ 4]).all (fun i => !i.wf) = true := by
  decide +kernel
/-- A neighbour of the refused terms is well formed. -/
theorem test_wf_accepts_neighbours :
    [Instr.ori 2 ⟨7, 4⟩, .btstDn 0 ⟨0, 0⟩, .callm ⟨2, 0⟩, .casB ⟨7, 4⟩, .lea 3 ⟨0, 0⟩, .scc 0 ⟨7, 1⟩, .bcc 2 2,
      .and 0 true 2 ⟨0, 0⟩, .fmove ⟨0, 1⟩ true 7 0, .fmovemToCtl ⟨2, 0⟩ 3].all Instr.wf = true := by
  decide +kernel

theorem test_wf_refuses_displacement :
    [(⟨0, 1, none, none⟩ : Displacement), ⟨0, 0, none, some .preIndexed⟩, ⟨0, 0, some ⟨false, 0, 0⟩, some .indirect⟩].all
      (fun d => !d.wf) = true := by
  decide +kernel


/-! Small tests of the encoder, the table word and the caller's loop. -/

/-- Source: the encoding lines of R82, R112, R153 and R226. -/
theorem test_encode_words :
    [encode .oriToCcr, encode (.moveB ⟨0, 0⟩ ⟨0, 1⟩), encode (.mulsL ⟨7, 4⟩ 1 true 3), encode (.fabs ⟨0, 0⟩ false 1 1)] =
      [[0x003C], [0x1200], [0x4C3C, 0x1C03], [0xF200, 0x0498]] := by
  decide +kernel

/-- Source: 70_reset_and_hazards.md R315: NOP is 2 bytes, and line A is not implemented. -/
theorem test_walk_stops_at_line_a :
    walk [0x4E, 0x71, 0xA0, 0x00] 0 = ([(0, ⟨0, .NOP, none, none, none⟩)], .stopped 2 .notImplemented) := by
  decide +kernel

/-- Source: 70_reset_and_hazards.md R315: the target is the call's offset, plus 2, plus the displacement. -/
theorem test_target_position :
    targetPosition 10 (.pcDisp 2 ⟨-4, 0, none, none⟩) = some 8 := by
  decide +kernel

/-- Source: 30_encoding.md R42: the table numbers bit 0 of the first word as bit 0, the second word as bits 31:16. -/
theorem test_table_word :
    decodeTableWord 16 0x4E71 = some .nop ∧ decodeTableWord 32 0x0498F200 = some (.fabs ⟨0, 0⟩ false 1 1) := by
  decide +kernel

theorem test_fetch_word_runs :
    resultOf (step (State.reset.withFetchWord 16 0x4E71)) = some (.ok ⟨2, ⟨0, .NOP, none, none, none⟩⟩) := by
  decide +kernel

/-- Source: 95_test_vectors.md section 6, the empty buffer; the state right after reset has one (log entry 1). -/
theorem test_step_at_reset : resultOf (step State.reset) = some (.err .outOfSpace) := by
  decide +kernel

/-! Witnesses: for each statement with hypotheses, states and operands that meet all of them together, each clause at a
boundary of its range. -/

theorem witness_FirstErrorStays : State.reset.err = none ∧ (atWords []).err = none ∧
    (recordError .badSize State.reset).err = some .badSize := by
  decide +kernel

/-- The last word that fits and the first that does not, in a buffer of four bytes and in one of five. -/
theorem witness_PeekReadsTheBigEndianWord :
    (let s := atWords [0x1234];
      s.buf.wf = true ∧ s.pos + 2 * 0 + 2 ≤ s.len ∧ s.len < s.pos + 2 * 1 + 2) ∧
    (let s := { stateOf [0x4E, 0x71, 0x12, 0x34, 0x56] with pos := 2 };
      s.buf.wf = true ∧ s.pos + 2 * 0 + 2 ≤ s.len ∧ s.len < s.pos + 2 * 1 + 2) := by
  decide +kernel

theorem witness_EmitEndsTheCall : (atWords []).err = none ∧
    ({ atWords [] with err := some .reserved } : State).err = some .reserved := by
  decide +kernel

theorem witness_ImmediateOperands : (0 ≠ 1 ∧ 0 ≠ 2 ∧ 0 ≠ 4) ∧ (8 ≠ 1 ∧ 8 ≠ 2 ∧ 8 ≠ 4) := by
  decide +kernel

theorem witness_IllegalRegisterEncodings : 5 ≤ (5 : RegNum).toNat ∧ 5 ≤ (7 : RegNum).toNat := by
  decide +kernel

theorem witness_BriefExtensionWord :
    (atWords [0x1234]).wordAhead 0 = some (briefExt ⟨false, 1, 1⟩ 0x34 ||| 0) ∧
    (atWords [0x9EFF]).wordAhead 0 = some (briefExt ⟨true, 1, 3⟩ 0xFF ||| 0x0800) := by
  decide +kernel

/-- The longest form: five words, an index, two long displacements; and the shortest, one word. -/
theorem witness_FullExtensionWordRoundTrip :
    (let d : Displacement := ⟨0x12345678, 0x9ABCDEF0, some ⟨true, 7, 3⟩, some .postIndexed⟩;
      d.wf = true ∧ ∀ k w, (fullExt true d)[k]? = some w → (atWords (fullExt true d)).wordAhead k = some w) ∧
    (let d : Displacement := ⟨0x12345678, 0, none, none⟩;
      d.wf = true ∧ ∀ k w, (fullExt false d)[k]? = some w → (atWords (fullExt false d)).wordAhead k = some w) := by
  refine ⟨⟨by decide, fun k w h => ?_⟩, ⟨by decide, fun k w h => ?_⟩⟩
  all_goals
    obtain ⟨hk, -⟩ := List.getElem?_eq_some_iff.mp h
    rw [← h]
    clear h
    have hk : k < 5 := Nat.lt_of_lt_of_le hk (by decide +kernel)
    interval_cases k <;> decide +kernel

theorem witness_BaseDisplacementSizes :
    [(0x0100 : Word), 0x0110, 0x0120, 0x0130].map (fun e => field e 4 2) = [0, 1, 2, 3] ∧
    [(0x0100 : Word), 0x0190, 0x0160, 0x01F0].all (fun e => bitOf e 8 && (atWords [e]).wordAhead 0 == some e) = true := by
  decide +kernel

theorem witness_IndirectionCodes :
    [(0x0104 : Word), 0x0100, 0x0112, 0x0117, 0x0144, 0x0153].map
      (fun e => indirectionOf (bitOf e 6) (field e 0 3)) =
    [none, some (none, 1), some (some .preIndexed, 2), some (some .postIndexed, 3), none, some (some .indirect, 3)] := by
  decide +kernel

theorem witness_RegisterListOrder : 0 < 16 ∧ 15 < 16 ∧ 0 < 8 ∧ 7 < 8 ∧ (1 : BitVec 2).getLsbD 0 = true := by
  decide +kernel

theorem witness_FixedFormsComplete : (atWords []).err = none := by
  decide +kernel

theorem witness_RegisterFormsComplete : (atWords [0x1234]).err = none := by
  decide +kernel

theorem witness_OneWordFormsComplete :
    (let s := atWords [0x1234, 0xFFFF];
      s.err = none ∧ s.wordAhead 0 = some 0x1234 ∧ s.wordAhead 1 = some 0xFFFF) := by
  decide +kernel

theorem witness_ControlRegisterMovesComplete :
    (let s := atWords [0x9801];
      s.err = none ∧ s.wordAhead 0 = some (BitVec.ofBool true ++ (1 : RegNum) ++ (0x801 : BitVec 12))) ∧
    (let s := atWords [0x7000];
      s.err = none ∧ s.wordAhead 0 = some (BitVec.ofBool false ++ (7 : RegNum) ++ (0 : BitVec 12))) := by
  decide +kernel

/-- Every kind of address, without a word, with a displacement word and with a full extension word. -/
theorem witness_SingleAddressFormsComplete :
    [(⟨0, 0⟩ : EaField), ⟨2, 7⟩, ⟨4, 7⟩, ⟨5, 1⟩, ⟨6, 3⟩, ⟨7, 0⟩, ⟨7, 1⟩, ⟨7, 2⟩, ⟨7, 3⟩].all (fun ea =>
      [0, 1, 2, 4].all (fun n => (atWords [0x0133, 1, 2, 3, 4]).err == none &&
        (resolveEa ea n (atWords [0x0133, 1, 2, 3, 4])).2.err == none)) = true := by
  decide +kernel

theorem witness_SizedAddressFormsComplete :
    (let s := atWords [0x1234, 0x5678];
      s.err = none ∧ sizeStd 0 = some 1 ∧ (resolveEa ⟨0, 7⟩ 1 s).2.err = none ∧
      sizeStd 1 = some 2 ∧ (resolveEa ⟨5, 0⟩ 2 s).2.err = none ∧
      sizeStd 2 = some 4 ∧ (resolveEa ⟨7, 4⟩ 4 s).2.err = none) := by
  decide +kernel

theorem witness_ImmediateToAddressComplete :
    (let s := atWords [0x1234, 0x5678, 0x9ABC];
      s.err = none ∧
      sizeStd 0 = some 1 ∧ (readImm 1 s).2.err = none ∧ (resolveEa ⟨5, 0⟩ 1 (readImm 1 s).2).2.err = none ∧
      sizeStd 1 = some 2 ∧ (readImm 2 s).2.err = none ∧ (resolveEa ⟨7, 1⟩ 2 (readImm 2 s).2).2.err = none ∧
      sizeStd 2 = some 4 ∧ (readImm 4 s).2.err = none ∧ (resolveEa ⟨7, 0⟩ 4 (readImm 4 s).2).2.err = none) := by
  decide +kernel

/-- Size and hint 4 on a data register, 1 elsewhere; CALLM under hint 0. -/
theorem witness_BitOperationsComplete :
    (let s := atWords [0x0007, 0x0010];
      s.err = none ∧ s.wordAhead 0 = some 0x0007 ∧
      (4 = (if (⟨0, 3⟩ : EaField).mode = 0 then 4 else 1) ∧ (resolveEa ⟨0, 3⟩ 4 s).2.err = none ∧
        (resolveEa ⟨0, 3⟩ 4 (skipWords 1 s)).2.err = none) ∧
      (1 = (if (⟨5, 3⟩ : EaField).mode = 0 then 4 else 1) ∧ (resolveEa ⟨5, 3⟩ 1 s).2.err = none ∧
        (resolveEa ⟨5, 3⟩ 1 (skipWords 1 s)).2.err = none) ∧
      (resolveEa ⟨5, 0⟩ 0 (skipWords 1 s)).2.err = none) := by
  decide +kernel

theorem witness_BoundsAndSwapComplete :
    (let s := atWords [0xA000, 0x0010];
      s.err = none ∧ s.wordAhead 0 = some 0xA000 ∧ sizeCmp2 0 = some 1 ∧ sizeCmp2 2 = some 4 ∧
      (resolveEa ⟨5, 0⟩ 1 (skipWords 1 s)).2.err = none ∧ (resolveEa ⟨2, 0⟩ 4 (skipWords 1 s)).2.err = none) ∧
    (let s := atWords [0x0042];
      s.err = none ∧ s.wordAhead 0 = some ((0 : BitVec 7) ++ (1 : RegNum) ++ (0 : BitVec 3) ++ (2 : RegNum)) ∧
      [1, 2, 4].all (fun n => (resolveEa ⟨2, 0⟩ n (skipWords 1 s)).2.err == none) = true) ∧
    (let s := atWords [0x9800];
      s.err = none ∧ sizeStd 1 = some 2 ∧
      s.wordAhead 0 = some (BitVec.ofBool true ++ (1 : RegNum) ++ BitVec.ofBool true ++ (0 : BitVec 11)) ∧
      (resolveEa ⟨2, 0⟩ 2 (skipWords 1 s)).2.err = none) := by
  decide +kernel

theorem witness_MoveFormsComplete :
    (let s := atWords [0x0010, 0x0020, 0x0030];
      s.err = none ∧ [1, 4, 2].all (fun n => (resolveEa ⟨5, 0⟩ n s).2.err == none &&
        (resolveEa ⟨7, 1⟩ n (resolveEa ⟨5, 0⟩ n s).2).2.err == none) = true) := by
  decide +kernel

theorem witness_MovemAndMovepComplete :
    (let s := atWords [0x8001];
      2 = (if false then 4 else 2) ∧ 4 = (if true then 4 else 2) ∧ s.err = none ∧ s.wordAhead 0 = some 0x8001 ∧
      (resolveEa ⟨4, 7⟩ 2 (skipWords 1 s)).2.err = none ∧ (resolveEa ⟨3, 7⟩ 4 (skipWords 1 s)).2.err = none) := by
  decide +kernel

theorem witness_Cas2IsRefused : (atWords [0, 0]).err = none := by
  decide +kernel

theorem witness_LongMultiplyDivideComplete :
    (let s := atWords [0x1C03, 0x0010];
      s.err = none ∧ s.wordAhead 0 = some 0x1C03 ∧
      resolveEa ⟨5, 3⟩ 4 (skipWords 1 s) = (.arDisp 3 ⟨16, 0, none, none⟩, skipWords 2 s) ∧
      (skipWords 2 s).err = none) := by
  decide +kernel

/-- One hint for each clause: 4, 2, and the size of a size code. -/
theorem witness_AddressToRegisterComplete :
    (let s := atWords [0x0010];
      s.err = none ∧ [4, 2, 1].all (fun n =>
        resolveEa ⟨5, 3⟩ n s == (.arDisp 3 ⟨16, 0, none, none⟩, skipWords 1 s)) = true ∧ (skipWords 1 s).err = none ∧
      4 = (if true then 4 else 2) ∧ 2 = (if false then 4 else 2) ∧ sizeStd 0 = some 1 ∧ sizeStd 2 = some 4) := by
  decide +kernel

theorem witness_RegisterToAddressComplete :
    (let s := atWords [0x0010];
      s.err = none ∧ [2, 1, 4].all (fun n =>
        resolveEa ⟨5, 3⟩ n s == (.arDisp 3 ⟨16, 0, none, none⟩, skipWords 1 s)) = true ∧ (skipWords 1 s).err = none ∧
      sizeStd 0 = some 1 ∧ sizeStd 1 = some 2 ∧ sizeStd 2 = some 4) := by
  decide +kernel

theorem witness_RegisterShiftsComplete :
    (atWords []).err = none ∧ sizeStd 0 = some 1 ∧ sizeStd 1 = some 2 ∧ sizeStd 2 = some 4 := by
  decide +kernel

/-- A register source (no further hypothesis), and a source of each format under its own size. -/
theorem witness_FpuGeneralOperationsComplete :
    (let s := atWords [0x0498, 0x0010];
      s.err = none ∧ s.wordAhead 0 = some 0x0498 ∧ (skipWords 2 s).err = none ∧
      [0, 1, 2, 3, 4, 5, 6].all (fun c => (fmtIn c).isSome &&
        (fmtIn c).all (fun f =>
          resolveEa ⟨5, 3⟩ (formatSize f) (skipWords 1 s) == (.arDisp 3 ⟨16, 0, none, none⟩, skipWords 2 s))) = true) := by
  decide +kernel

theorem witness_SizeCode11IsRefused : (atWords []).err = none := by
  decide +kernel

theorem witness_FpuReservedForms :
    (let s := atWords [0x5C00];
      s.err = none ∧ s.wordAhead 0 = some 0x5C00) := by
  decide +kernel

/-- Each destination format, the hint 4 of one register, the hints of two and three registers, and the hint 10. -/
theorem witness_FpuMovesComplete :
    (let s := atWords [0x6C00, 0x0010];
      s.err = none ∧ s.wordAhead 0 = some 0x6C00 ∧ (skipWords 2 s).err = none ∧
      [1, 2, 4, 8, 10, 12].all (fun n =>
        resolveEa ⟨5, 3⟩ n (skipWords 1 s) == (.arDisp 3 ⟨16, 0, none, none⟩, skipWords 2 s)) = true ∧
      ((3 : BitVec 3) ≠ 0 ∧ 2 = ((List.range 3).filter (fun i => (3 : BitVec 3).getLsbD i)).length) ∧
      ((7 : BitVec 3) ≠ 0 ∧ 3 = ((List.range 3).filter (fun i => (7 : BitVec 3).getLsbD i)).length)) := by
  decide +kernel

theorem witness_PairFormsComplete :
    (let s := atWords [0x1234];
      s.err = none ∧ sizeStd 0 = some 1 ∧ s.wordAhead 0 = some 0x1234) ∧
    (∃ f : RegNum → Operand, f = (if true then .arDec else .dr)) := by
  exact ⟨by decide, _, rfl⟩

/-- The two displacement bytes next to the escapes, and the words after the escapes. -/
theorem witness_BranchFormsComplete :
    ((0x01 : Byte) ≠ 0x00 ∧ (0x01 : Byte) ≠ 0xFF) ∧ ((0xFE : Byte) ≠ 0x00 ∧ (0xFE : Byte) ≠ 0xFF) ∧
    (let s := atWords [0x8000, 0x0001];
      s.err = none ∧ s.wordAhead 0 = some 0x8000 ∧ s.wordAhead 1 = some 0x0001) := by
  decide +kernel

theorem witness_BitfieldFormsComplete :
    (let s := atWords [0x7307];
      s.err = none ∧ (0x7307 : Word) = (0 : BitVec 1) ++ (7 : RegNum) ++ (0x307 : BitVec 12) ∧
      s.wordAhead 0 = some 0x7307 ∧ resolveEa ⟨2, 4⟩ 0 (skipWords 1 s) = (.arInd 4, skipWords 1 s) ∧
      (skipWords 1 s).err = none) := by
  decide +kernel

theorem witness_FpuConditionFormsComplete :
    (let s := atWords [0x003F, 0x0010, 0x0020];
      s.err = none ∧ s.wordAhead 0 = some ((0 : BitVec 10) ++ (0x3F : BitVec 6)) ∧ s.wordAhead 1 = some 0x0010 ∧
      s.wordAhead 2 = some 0x0020 ∧ resolveEa ⟨2, 0⟩ 1 (skipWords 1 s) = (.arInd 0, skipWords 1 s) ∧
      (skipWords 1 s).err = none) := by
  decide +kernel

theorem witness_EarlierErrorWins : ({ atWords [0x1234] with err := some .outOfSpace } : State).err = some .outOfSpace := by
  decide +kernel

/-- Every kind of error: an immediate of size 0 and of size 12, mode 7 register 5 as the first and as the second
address, a reserved base-displacement code, a missing word; and an error held before (j = 0). -/
theorem witness_MetErrorsEndTheCall :
    ((runReads ((readsOf (.jsr ⟨7, 4⟩)).take 1) (atWords [])).err = some .badSize ∧
      (runReads ((readsOf (.fabs ⟨7, 4⟩ true 3 0)).take 2) (atWords [0x4C18])).err = some .badSize) ∧
    ((runReads ((readsOf (.moveW ⟨7, 5⟩ ⟨5, 0⟩)).take 1) (atWords [1])).err = some .badRegister ∧
      (runReads ((readsOf (.moveW ⟨5, 0⟩ ⟨7, 5⟩)).take 2) (atWords [1])).err = some .badRegister) ∧
    (runReads ((readsOf (.bfins ⟨6, 0⟩)).take 2) (atWords [0, 0x0100])).err = some .reserved ∧
    (runReads ((readsOf (.addi 2 ⟨0, 0⟩)).take 1) (atWords [1])).err = some .outOfSpace ∧
    (let s : State := { atWords [] with err := some .reserved };
      (runReads ((readsOf .nop).take 0) s).err = some .reserved) := by
  decide +kernel

theorem witness_StepRunsTheDecodedInstruction :
    (stateOf [0x4E, 0x71]).buf.wf = true ∧ decode (stateOf [0x4E, 0x71]).buf.bytes = .ok .nop ∧
    decode (stateOf [0xF2, 0x00, 0x04, 0x98]).buf.bytes = .ok (.fabs ⟨0, 0⟩ false 1 1) := by
  exact ⟨by decide +kernel, by rfl, by rfl⟩

theorem witness_StepReportsTheRefusal :
    (stateOf [0x4E]).buf.wf = true ∧ decode (stateOf [0x4E]).buf.bytes = .error .outOfSpace ∧
    decode (stateOf [0xF2, 0x00]).buf.bytes = .error .outOfSpace ∧
    (stateOf [0xA0, 0x00]).buf.wf = true ∧ decode (stateOf [0xA0, 0x00]).buf.bytes = .error .notImplemented := by
  exact ⟨by decide +kernel, by rfl, by rfl, by decide +kernel, by rfl⟩

theorem witness_StepDependsOnTheBufferAlone :
    (stateOf [0x4E, 0x71]).buf = ({ stateOf [0x4E, 0x71] with pos := 2, err := some .badSize } : State).buf := by
  rfl

/-- The bounds of each listed range; the words next to them are taken by a row. -/
theorem witness_UnassignedEncodingsAreExactlyTheListed :
    [(0x4140 : Word), 0x4E00, 0x4E3F, 0x4E78, 0x4E79, 0x4E7C, 0x4E7F, 0x7100, 0xA000, 0xAFFF, 0xF000, 0xF1FF, 0xF380,
      0xFFFF].all (fun w => unassignedFirst w && (stateOf (bytesOfWords [w])).buf.word? 0 == some w) = true ∧
    [(0x4180 : Word), 0x4E40, 0x4E77, 0x4E7A, 0x7000, 0xB000, 0xF200, 0xF37F].all (fun w => !unassignedFirst w) = true ∧
    [(0x2000 : Word), 0x0005, 0x4029, 0x006D].all (unassignedCommand 0xF200) = true := by
  decide +kernel

theorem witness_DecodeOfEncode :
    (Instr.nop.wf = true ∧ Instr.nop ≠ .fbccW 0) ∧ ((Instr.fbccW 0).wf = true ∧ (1 : Word) ≠ 0) ∧
    ((Instr.fabs ⟨0, 0⟩ false 1 1).wf = true ∧ Instr.fabs ⟨0, 0⟩ false 1 1 ≠ .fbccW 0) := by
  decide +kernel

theorem witness_DecodedWordsAreWellFormed :
    decodeWords 0x4E71 0 = some .nop ∧ decodeWords 0xF200 0x0498 = some (.fabs ⟨0, 0⟩ false 1 1) ∧
    (encode (.fabs ⟨0, 0⟩ false 1 1))[1]? = some 0x0498 := by
  decide +kernel

theorem witness_StepKeepsTheInvariant :
    State.reset.inv = true ∧ (stateOf [0x4E, 0x71]).inv = true ∧ (atWords [0x1234]).inv = true := by
  decide +kernel

theorem witness_TrailingBytesDoNotMatter :
    decodeCall [0x4E, 0x71] = some (.ok ⟨2, ⟨0, .NOP, none, none, none⟩⟩) := by
  decide +kernel

/-! Decoding: for each row a word, written out from the encoding line of its rule, and the row it stands for. -/

/-- Source: the encoding lines of 40_group0.md. The words are those of its examples where a row has one. -/
theorem test_decode_group0000 : (
  [ (0b0000000000111100#16, 0, .oriToCcr)
  , (0b0000000001111100#16, 0, .oriToSr)
  , (0b0000001000111100#16, 0, .andiToCcr)
  , (0b0000001001111100#16, 0, .andiToSr)
  , (0b0000101000111100#16, 0, .eoriToCcr)
  , (0b0000101001111100#16, 0, .eoriToSr)
  , (0b0000_000_1_1_0_001_000#16, 0, .movep 0 true false 0)
  , (0b0000_111_100_111_100#16, 0, .btstDn 7 ⟨7, 4⟩)
  , (0b0000_011_101_010_010#16, 0, .bchgDn 3 ⟨2, 2⟩)
  , (0b0000_011_110_010_010#16, 0, .bclrDn 3 ⟨2, 2⟩)
  , (0b0000_011_111_010_010#16, 0, .bsetDn 3 ⟨2, 2⟩)
  , (0b0000100000_101_001#16, 0, .btstImm ⟨5, 1⟩)
  , (0b0000100001_101_001#16, 0, .bchgImm ⟨5, 1⟩)
  , (0b0000100010_101_001#16, 0, .bclrImm ⟨5, 1⟩)
  , (0b0000100011_101_001#16, 0, .bsetImm ⟨5, 1⟩)
  , (0b000001101100_1_010#16, 0, .rtm ⟨true, 2⟩)
  , (0b0000011011_101_000#16, 0, .callm ⟨5, 0⟩)
  , (0b00000_01_011_010_000#16, 0b1_010_000000000000#16, .cmp2 1 ⟨2, 0⟩ ⟨true, 2⟩)
  , (0b00000_10_011_101_000#16, 0b0_001_100000000000#16, .chk2 2 ⟨5, 0⟩ ⟨false, 1⟩)
  , (0b000011_0_011111100#16, 0, .cas2 false)
  , (0b0000101011_010_000#16, 0, .casB ⟨2, 0⟩)
  , (0b0000110011_010_000#16, 0, .casW ⟨2, 0⟩)
  , (0b0000111011_010_000#16, 0, .casL ⟨2, 0⟩)
  , (0b00000000_01_000_000#16, 0, .ori 1 ⟨0, 0⟩)
  , (0b00000010_00_000_001#16, 0, .andi 0 ⟨0, 1⟩)
  , (0b00000100_10_010_000#16, 0, .subi 2 ⟨2, 0⟩)
  , (0b00000110_01_111_001#16, 0, .addi 1 ⟨7, 1⟩)
  , (0b00001010_00_000_010#16, 0, .eori 0 ⟨0, 2⟩)
  , (0b00001100_00_111_010#16, 0, .cmpi 0 ⟨7, 2⟩)
  , (0b00001110_01_010_000#16, 0, .moves 1 ⟨2, 0⟩) ]
    : List (Word × Word × Instr)).all (fun t => decodeWords t.1 t.2.1 == some t.2.2) = true := by
  decide +kernel

/-- Source: the encoding lines of 41_move.md. The words are those of its examples where a row has one. -/
theorem test_decode_moves : (
  [ (0b0001_001_000_000_000#16, 0, .moveB ⟨0, 0⟩ ⟨0, 1⟩)
  , (0b0010_010_001_111_100#16, 0, .moveaL 2 ⟨7, 4⟩)
  , (0b0010_001_000_010_001#16, 0, .moveL ⟨2, 1⟩ ⟨0, 1⟩)
  , (0b0011_010_001_001_000#16, 0, .moveaW 2 ⟨1, 0⟩)
  , (0b0011_001_010_000_011#16, 0, .moveW ⟨0, 3⟩ ⟨2, 1⟩) ]
    : List (Word × Word × Instr)).all (fun t => decodeWords t.1 t.2.1 == some t.2.2) = true := by
  decide +kernel

/-- Source: the encoding lines of 42_group4.md. The words are those of its examples where a row has one. -/
theorem test_decode_group0100 : (
  [ (0b0100101011111100#16, 0, .illegal)
  , (0b0100101011111010#16, 0, .bgnd)
  , (0b0100111001110000#16, 0, .reset)
  , (0b0100111001110001#16, 0, .nop)
  , (0b0100111001110010#16, 0, .stop)
  , (0b0100111001110011#16, 0, .rte)
  , (0b0100111001110100#16, 0, .rtd)
  , (0b0100111001110101#16, 0, .rts)
  , (0b0100111001110110#16, 0, .trapv)
  , (0b0100111001110111#16, 0, .rtr)
  , (0b0100111001111010#16, 0, .movecFrom)
  , (0b0100111001111011#16, 0, .movecTo)
  , (0b010011100100_1111#16, 0, .trap 15)
  , (0b0100111001010_110#16, 0, .linkW 6)
  , (0b0100111001011_110#16, 0, .unlk 6)
  , (0b0100111001100_001#16, 0, .moveToUsp 1)
  , (0b0100111001101_110#16, 0, .moveFromUsp 6)
  , (0b0100111010_111_001#16, 0, .jsr ⟨7, 1⟩)
  , (0b0100111011_111_011#16, 0, .jmp ⟨7, 3⟩)
  , (0b0100100000001_110#16, 0, .linkL 6)
  , (0b0100100000_000_011#16, 0, .nbcd ⟨0, 3⟩)
  , (0b0100100001000_101#16, 0, .swap 5)
  , (0b0100100001001_011#16, 0, .bkpt 3)
  , (0b0100100001_111_010#16, 0, .pea ⟨7, 2⟩)
  , (0b0100100010000_010#16, 0, .extW 2)
  , (0b0100100011000_010#16, 0, .extL 2)
  , (0b0100100111000_010#16, 0, .extbL 2)
  , (0b010010001_1_100_111#16, 0, .movemStore true ⟨4, 7⟩)
  , (0b010011001_1_011_111#16, 0, .movemLoad true ⟨3, 7⟩)
  , (0b0100000011_100_111#16, 0, .moveFromSr ⟨4, 7⟩)
  , (0b0100001011_100_111#16, 0, .moveFromCcr ⟨4, 7⟩)
  , (0b0100010011_111_100#16, 0, .moveToCcr ⟨7, 4⟩)
  , (0b0100011011_111_100#16, 0, .moveToSr ⟨7, 4⟩)
  , (0b01000000_10_000_000#16, 0, .negx 2 ⟨0, 0⟩)
  , (0b01000010_01_011_000#16, 0, .clr 1 ⟨3, 0⟩)
  , (0b01000100_00_111_001#16, 0, .neg 0 ⟨7, 1⟩)
  , (0b01000110_01_010_000#16, 0, .not 1 ⟨2, 0⟩)
  , (0b0100101011_010_001#16, 0, .tas ⟨2, 1⟩)
  , (0b01001010_01_101_100#16, 0, .tst 1 ⟨5, 4⟩)
  , (0b0100110000_000_001#16, 0b0_010_0_0_0000000_000#16, .muluL ⟨0, 1⟩ 2 false 0)
  , (0b0100110000_111_100#16, 0b0_001_1_1_0000000_011#16, .mulsL ⟨7, 4⟩ 1 true 3)
  , (0b0100110001_000_001#16, 0b0_010_010000000_011#16, .divuL64 ⟨0, 1⟩ 2 3)
  , (0b0100110001_000_010#16, 0b0_001_000000000_010#16, .divuL32 ⟨0, 2⟩ 1 2)
  , (0b0100110001_000_001#16, 0b0_010_110000000_011#16, .divsL64 ⟨0, 1⟩ 2 3)
  , (0b0100110001_000_010#16, 0b0_001_100000000_001#16, .divsL32 ⟨0, 2⟩ 1 1)
  , (0b0100_001_100_111_100#16, 0, .chkL 1 ⟨7, 4⟩)
  , (0b0100_001_110_111_100#16, 0, .chkW 1 ⟨7, 4⟩)
  , (0b0100_001_111_101_000#16, 0, .lea 1 ⟨5, 0⟩) ]
    : List (Word × Word × Instr)).all (fun t => decodeWords t.1 t.2.1 == some t.2.2) = true := by
  decide +kernel

/-- Source: the encoding lines of 43_group5.md. The words are those of its examples where a row has one. -/
theorem test_decode_group0101 : (
  [ (0b0101_0001_11001_001#16, 0, .dbcc 1 1)
  , (0b0101_0111_11111010#16, 0, .trapccW 7)
  , (0b0101_0111_11111011#16, 0, .trapccL 7)
  , (0b0101_0111_11111100#16, 0, .trapcc 7)
  , (0b0101_0111_11_000_000#16, 0, .scc 7 ⟨0, 0⟩)
  , (0b0101_000_0_10_001_000#16, 0, .addq 0 2 ⟨1, 0⟩)
  , (0b0101_111_1_01_001_111#16, 0, .subq 7 1 ⟨1, 7⟩) ]
    : List (Word × Word × Instr)).all (fun t => decodeWords t.1 t.2.1 == some t.2.2) = true := by
  decide +kernel

/-- Source: the encoding lines of 44_group6_7.md. The words are those of its examples where a row has one. -/
theorem test_decode_branches : (
  [ (0b01100000_11111110#16, 0, .bra 254)
  , (0b01100001_00000000#16, 0, .bsr 0)
  , (0b0110_0111_11111111#16, 0, .bcc 7 255)
  , (0b0111_001_0_11111111#16, 0, .moveq 1 255) ]
    : List (Word × Word × Instr)).all (fun t => decodeWords t.1 t.2.1 == some t.2.2) = true := by
  decide +kernel

/-- Source: the encoding lines of 45_arith_logic.md. The words are those of its examples where a row has one. -/
theorem test_decode_arith_logic : (
  [ (0b1000_001_011_000_011#16, 0, .divuW 1 ⟨0, 3⟩)
  , (0b1000_000_111_111_100#16, 0, .divsW 0 ⟨7, 4⟩)
  , (0b1000_001_10000_1_001#16, 0, .sbcd 1 true 1)
  , (0b1000_010_10100_0_001#16, 0, .pack 2 false 1)
  , (0b1000_010_11000_1_000#16, 0, .unpk 2 true 0)
  , (0b1000_001_0_00_010_000#16, 0, .or 1 false 0 ⟨2, 0⟩)
  , (0b1001_001_1_11_001_000#16, 0, .suba 1 true ⟨1, 0⟩)
  , (0b1001_001_1_10_00_1_001#16, 0, .subx 1 2 true 1)
  , (0b1001_000_0_10_000_001#16, 0, .sub 0 false 2 ⟨0, 1⟩)
  , (0b1011_010_1_11_111_100#16, 0, .cmpa 2 true ⟨7, 4⟩)
  , (0b1011_010_1_01_001_001#16, 0, .cmpm 2 1 1)
  , (0b1011_000_0_01_111_100#16, 0, .cmp 0 1 ⟨7, 4⟩)
  , (0b1011_100_1_01_010_010#16, 0, .eor 4 1 ⟨2, 2⟩)
  , (0b1100_001_011_000_001#16, 0, .muluW 1 ⟨0, 1⟩)
  , (0b1100_001_111_111_100#16, 0, .mulsW 1 ⟨7, 4⟩)
  , (0b1100_000_10000_0_001#16, 0, .abcd 0 false 1)
  , (0b1100_001_101000_010#16, 0, .exgDD 1 2)
  , (0b1100_001_101001_010#16, 0, .exgAA 1 2)
  , (0b1100_001_110001_111#16, 0, .exgDA 1 7)
  , (0b1100_000_0_01_111_100#16, 0, .and 0 false 1 ⟨7, 4⟩)
  , (0b1101_000_1_11_001_001#16, 0, .adda 0 true ⟨1, 1⟩)
  , (0b1101_001_1_10_00_0_000#16, 0, .addx 1 2 false 0)
  , (0b1101_001_0_10_010_001#16, 0, .add 1 false 2 ⟨2, 1⟩) ]
    : List (Word × Word × Instr)).all (fun t => decodeWords t.1 t.2.1 == some t.2.2) = true := by
  decide +kernel

/-- Source: the encoding lines of 46_group_e.md. The words are those of its examples where a row has one. -/
theorem test_decode_group1110 : (
  [ (0b1110100011_000_001#16, 0, .bftst ⟨0, 1⟩)
  , (0b1110100111_010_000#16, 0, .bfextu ⟨2, 0⟩)
  , (0b1110101011_010_100#16, 0, .bfchg ⟨2, 4⟩)
  , (0b1110101111_101_000#16, 0, .bfexts ⟨5, 0⟩)
  , (0b1110110011_111_001#16, 0, .bfclr ⟨7, 1⟩)
  , (0b1110110111_000_011#16, 0, .bfffo ⟨0, 3⟩)
  , (0b1110111011_010_000#16, 0, .bfset ⟨2, 0⟩)
  , (0b1110111111_000_010#16, 0, .bfins ⟨0, 2⟩)
  , (0b1110000011_010_011#16, 0, .asrEa ⟨2, 3⟩)
  , (0b1110000111_010_011#16, 0, .aslEa ⟨2, 3⟩)
  , (0b1110001011_010_011#16, 0, .lsrEa ⟨2, 3⟩)
  , (0b1110001111_010_011#16, 0, .lslEa ⟨2, 3⟩)
  , (0b1110010011_010_011#16, 0, .roxrEa ⟨2, 3⟩)
  , (0b1110010111_010_011#16, 0, .roxlEa ⟨2, 3⟩)
  , (0b1110011011_010_011#16, 0, .rorEa ⟨2, 3⟩)
  , (0b1110011111_010_011#16, 0, .rolEa ⟨2, 3⟩)
  , (0b1110_101_0_01_1_00_001#16, 0, .asrDy 5 1 true 1)
  , (0b1110_011_1_00_0_00_111#16, 0, .aslDy 3 0 false 7)
  , (0b1110_101_0_01_1_01_001#16, 0, .lsrDy 5 1 true 1)
  , (0b1110_101_1_01_1_01_001#16, 0, .lslDy 5 1 true 1)
  , (0b1110_101_0_01_1_10_001#16, 0, .roxrDy 5 1 true 1)
  , (0b1110_101_1_01_1_10_001#16, 0, .roxlDy 5 1 true 1)
  , (0b1110_101_0_01_1_11_001#16, 0, .rorDy 5 1 true 1)
  , (0b1110_101_1_01_1_11_001#16, 0, .rolDy 5 1 true 1) ]
    : List (Word × Word × Instr)).all (fun t => decodeWords t.1 t.2.1 == some t.2.2) = true := by
  decide +kernel

/-- Source: the encoding lines of 47_fpu_ops.md. The words are those of its examples where a row has one. -/
theorem test_decode_fpu_ops : (
  [ (0b1111001000000000#16, 0b010111_001_0001111#16, .fmovecr 1 15)
  , (0b1111001000_101_110#16, 0b0_1_0_001_000_0000000#16, .fmove ⟨5, 6⟩ true 1 0)
  , (0b1111001000_000_000#16, 0b0_0_0_001_010_0000001#16, .fint ⟨0, 0⟩ false 1 2)
  , (0b1111001000_010_010#16, 0b0_1_0_000_001_0000010#16, .fsinh ⟨2, 2⟩ true 0 1)
  , (0b1111001000_010_010#16, 0b0_1_0_000_001_0000011#16, .fintrz ⟨2, 2⟩ true 0 1)
  , (0b1111001000_000_000#16, 0b0_0_0_001_010_0000100#16, .fsqrt ⟨0, 0⟩ false 1 2)
  , (0b1111001000_010_010#16, 0b0_1_0_000_001_0000110#16, .flognp1 ⟨2, 2⟩ true 0 1)
  , (0b1111001000_000_000#16, 0b0_0_0_001_010_0001000#16, .fetoxm1 ⟨0, 0⟩ false 1 2)
  , (0b1111001000_000_000#16, 0b0_0_0_001_010_0001001#16, .ftanh ⟨0, 0⟩ false 1 2)
  , (0b1111001000_010_010#16, 0b0_1_0_000_001_0001010#16, .fatan ⟨2, 2⟩ true 0 1)
  , (0b1111001000_000_000#16, 0b0_0_0_001_010_0001100#16, .fasin ⟨0, 0⟩ false 1 2)
  , (0b1111001000_000_000#16, 0b0_0_0_001_010_0001101#16, .fatanh ⟨0, 0⟩ false 1 2)
  , (0b1111001000_010_010#16, 0b0_1_0_000_001_0001110#16, .fsin ⟨2, 2⟩ true 0 1)
  , (0b1111001000_010_010#16, 0b0_1_0_000_001_0001111#16, .ftan ⟨2, 2⟩ true 0 1)
  , (0b1111001000_000_000#16, 0b0_0_0_001_010_0010000#16, .fetox ⟨0, 0⟩ false 1 2)
  , (0b1111001000_000_000#16, 0b0_0_0_001_010_0010001#16, .ftwotox ⟨0, 0⟩ false 1 2)
  , (0b1111001000_010_010#16, 0b0_1_0_000_001_0010010#16, .ftentox ⟨2, 2⟩ true 0 1)
  , (0b1111001000_000_000#16, 0b0_0_0_001_010_0010100#16, .flogn ⟨0, 0⟩ false 1 2)
  , (0b1111001000_000_000#16, 0b0_0_0_001_010_0010101#16, .flog10 ⟨0, 0⟩ false 1 2)
  , (0b1111001000_010_010#16, 0b0_1_0_000_001_0010110#16, .flog2 ⟨2, 2⟩ true 0 1)
  , (0b1111001000_000_000#16, 0b0_0_0_001_001_0011000#16, .fabs ⟨0, 0⟩ false 1 1)
  , (0b1111001000_000_000#16, 0b0_0_0_001_010_0011001#16, .fcosh ⟨0, 0⟩ false 1 2)
  , (0b1111001000_010_010#16, 0b0_1_0_000_001_0011010#16, .fneg ⟨2, 2⟩ true 0 1)
  , (0b1111001000_000_000#16, 0b0_0_0_001_010_0011100#16, .facos ⟨0, 0⟩ false 1 2)
  , (0b1111001000_000_000#16, 0b0_0_0_001_010_0011101#16, .fcos ⟨0, 0⟩ false 1 2)
  , (0b1111001000_010_010#16, 0b0_1_0_000_001_0011110#16, .fgetexp ⟨2, 2⟩ true 0 1)
  , (0b1111001000_010_010#16, 0b0_1_0_000_001_0011111#16, .fgetman ⟨2, 2⟩ true 0 1) ]
    : List (Word × Word × Instr)).all (fun t => decodeWords t.1 t.2.1 == some t.2.2) = true := by
  decide +kernel

/-- Source: the encoding lines of 48_fpu_ops2.md. The words are those of its examples where a row has one. -/
theorem test_decode_fpu_ops2 : (
  [ (0b1111001000_000_000#16, 0b0_0_0_001_000_0100000#16, .fdiv ⟨0, 0⟩ false 1 0)
  , (0b1111001000_000_000#16, 0b0_0_0_001_010_0100001#16, .fmod ⟨0, 0⟩ false 1 2)
  , (0b1111001000_111_100#16, 0b0_1_0_001_000_0100010#16, .fadd ⟨7, 4⟩ true 1 0)
  , (0b1111001000_010_010#16, 0b0_1_0_000_001_0100011#16, .fmul ⟨2, 2⟩ true 0 1)
  , (0b1111001000_000_000#16, 0b0_0_0_001_010_0100100#16, .fsgldiv ⟨0, 0⟩ false 1 2)
  , (0b1111001000_000_000#16, 0b0_0_0_001_010_0100101#16, .frem ⟨0, 0⟩ false 1 2)
  , (0b1111001000_010_010#16, 0b0_1_0_000_001_0100110#16, .fscale ⟨2, 2⟩ true 0 1)
  , (0b1111001000_010_010#16, 0b0_1_0_000_001_0100111#16, .fsglmul ⟨2, 2⟩ true 0 1)
  , (0b1111001000_000_000#16, 0b0_0_0_001_010_0101000#16, .fsub ⟨0, 0⟩ false 1 2)
  , (0b1111001000_000_000#16, 0b0_0_0_011_010_0110_001#16, .fsincos ⟨0, 0⟩ false 3 2 1)
  , (0b1111001000_111_100#16, 0b0_1_0_110_000_0111000#16, .fcmp ⟨7, 4⟩ true 6 0)
  , (0b1111001000_010_000#16, 0b0_1_0_000_0000111010#16, .ftst ⟨2, 0⟩ true 0)
  , (0b1111001000_000_000#16, 0b0_0_0_001_010_1000000#16, .fsmove ⟨0, 0⟩ false 1 2)
  , (0b1111001000_000_000#16, 0b0_0_0_001_010_1000001#16, .fssqrt ⟨0, 0⟩ false 1 2)
  , (0b1111001000_000_000#16, 0b0_0_0_001_010_1000100#16, .fdmove ⟨0, 0⟩ false 1 2)
  , (0b1111001000_000_000#16, 0b0_0_0_001_010_1000101#16, .fdsqrt ⟨0, 0⟩ false 1 2)
  , (0b1111001000_000_000#16, 0b0_0_0_001_010_1011000#16, .fsabs ⟨0, 0⟩ false 1 2)
  , (0b1111001000_010_010#16, 0b0_1_0_000_001_1011010#16, .fsneg ⟨2, 2⟩ true 0 1)
  , (0b1111001000_000_000#16, 0b0_0_0_001_010_1011100#16, .fdabs ⟨0, 0⟩ false 1 2)
  , (0b1111001000_010_010#16, 0b0_1_0_000_001_1011110#16, .fdneg ⟨2, 2⟩ true 0 1)
  , (0b1111001000_000_000#16, 0b0_0_0_001_010_1100000#16, .fsdiv ⟨0, 0⟩ false 1 2)
  , (0b1111001000_010_010#16, 0b0_1_0_000_001_1100010#16, .fsadd ⟨2, 2⟩ true 0 1)
  , (0b1111001000_010_010#16, 0b0_1_0_000_001_1100011#16, .fsmul ⟨2, 2⟩ true 0 1)
  , (0b1111001000_000_000#16, 0b0_0_0_001_010_1100100#16, .fddiv ⟨0, 0⟩ false 1 2)
  , (0b1111001000_010_010#16, 0b0_1_0_000_001_1100110#16, .fdadd ⟨2, 2⟩ true 0 1)
  , (0b1111001000_010_010#16, 0b0_1_0_000_001_1100111#16, .fdmul ⟨2, 2⟩ true 0 1)
  , (0b1111001000_000_000#16, 0b0_0_0_001_010_1101000#16, .fssub ⟨0, 0⟩ false 1 2)
  , (0b1111001000_000_000#16, 0b0_0_0_001_010_1101100#16, .fdsub ⟨0, 0⟩ false 1 2) ]
    : List (Word × Word × Instr)).all (fun t => decodeWords t.1 t.2.1 == some t.2.2) = true := by
  decide +kernel

/-- Source: the encoding lines of 49_fpu_control.md. The words are those of its examples where a row has one. -/
theorem test_decode_fpu_control : (
  [ (0b1111001000_101_000#16, 0b011_011_001_1111111#16, .fmoveToEa ⟨5, 0⟩ 3 1 127)
  , (0b1111001000_000_000#16, 0b1001000000000000#16, .fmoveToFpcr ⟨0, 0⟩)
  , (0b1111001000_000_000#16, 0b1000100000000000#16, .fmoveToFpsr ⟨0, 0⟩)
  , (0b1111001000_000_000#16, 0b1000010000000000#16, .fmoveToFpiar ⟨0, 0⟩)
  , (0b1111001000_100_111#16, 0b1011000000000000#16, .fmoveFromFpcr ⟨4, 7⟩)
  , (0b1111001000_100_111#16, 0b1010100000000000#16, .fmoveFromFpsr ⟨4, 7⟩)
  , (0b1111001000_100_111#16, 0b1010010000000000#16, .fmoveFromFpiar ⟨4, 7⟩)
  , (0b1111001000_011_111#16, 0b100_111_0000000000#16, .fmovemToCtl ⟨3, 7⟩ 7)
  , (0b1111001000_100_111#16, 0b101_111_0000000000#16, .fmovemFromCtl ⟨4, 7⟩ 7)
  , (0b1111001000_011_111#16, 0b110_10_000_11000000#16, .fmovemToFp ⟨3, 7⟩ 2 192)
  , (0b1111001000_100_111#16, 0b111_00_000_00000011#16, .fmovemFromFp ⟨4, 7⟩ 0 3)
  , (0b1111001001001_001#16, 0, .fdbcc 1)
  , (0b1111001001111010#16, 0, .ftrapccW)
  , (0b1111001001111011#16, 0, .ftrapccL)
  , (0b1111001001111100#16, 0, .ftrapcc)
  , (0b1111001001_010_000#16, 0, .fscc ⟨2, 0⟩)
  , (0b1111001010000000#16, 0b0000000000000000#16, .fnop)
  , (0b1111001010_000001#16, 0, .fbccW 1)
  , (0b1111001011_001111#16, 0, .fbccL 15)
  , (0b1111001100_100_111#16, 0, .fsave ⟨4, 7⟩)
  , (0b1111001101_011_111#16, 0, .frestore ⟨3, 7⟩) ]
    : List (Word × Word × Instr)).all (fun t => decodeWords t.1 t.2.1 == some t.2.2) = true := by
  decide +kernel

/-! Decode calls: the worked example of every instruction rule, with the result the rule prints. -/

/-- Source: the `Example` lines of 40_group0.md. -/
theorem test_call_group0000 : (
  [ ([0x00, 0x3C, 0x00, 0xFF], .ok ⟨4, ⟨1, .ORITOCCR, some (.imm8 255), some .implied, none⟩⟩)
  , ([0x00, 0x7C, 0x27, 0x00], .ok ⟨4, ⟨2, .ORITOSR, some (.imm16 0x2700), some .implied, none⟩⟩)
  , ([0x02, 0x3C, 0x00, 0xFF], .ok ⟨4, ⟨1, .ANDITOCCR, some (.imm8 255), some .implied, none⟩⟩)
  , ([0x02, 0x7C, 0x27, 0x00], .ok ⟨4, ⟨2, .ANDITOSR, some (.imm16 0x2700), some .implied, none⟩⟩)
  , ([0x0A, 0x3C, 0x00, 0xFF], .ok ⟨4, ⟨1, .EORITOCCR, some (.imm8 255), some .implied, none⟩⟩)
  , ([0x0A, 0x7C, 0x27, 0x00], .ok ⟨4, ⟨2, .EORITOSR, some (.imm16 0x2700), some .implied, none⟩⟩)
  , ([0x01, 0x88, 0x00, 0x10], .ok ⟨4, ⟨2, .MOVEP, some (.dr 0), some (.arDisp 0 ⟨16, 0, none, none⟩), none⟩⟩)
  , ([0x0F, 0x3C, 0x00, 0x12], .ok ⟨4, ⟨1, .BTST, some (.dr 7), some (.imm8 18), none⟩⟩)
  , ([0x07, 0x52], .ok ⟨2, ⟨1, .BCHG, some (.dr 3), some (.arInd 2), none⟩⟩)
  , ([0x07, 0x92], .ok ⟨2, ⟨1, .BCLR, some (.dr 3), some (.arInd 2), none⟩⟩)
  , ([0x07, 0xD2], .ok ⟨2, ⟨1, .BSET, some (.dr 3), some (.arInd 2), none⟩⟩)
  , ([0x08, 0x29, 0x00, 0x07, 0xFF, 0xFE], .ok ⟨6, ⟨1, .BTST, some (.imm8 7), some (.arDisp 1 ⟨-2, 0, none, none⟩),
      none⟩⟩)
  , ([0x08, 0x69, 0x00, 0x07, 0xFF, 0xFE], .ok ⟨6, ⟨1, .BCHG, some (.imm8 7), some (.arDisp 1 ⟨-2, 0, none, none⟩),
      none⟩⟩)
  , ([0x08, 0xA9, 0x00, 0x07, 0xFF, 0xFE], .ok ⟨6, ⟨1, .BCLR, some (.imm8 7), some (.arDisp 1 ⟨-2, 0, none, none⟩),
      none⟩⟩)
  , ([0x08, 0xE9, 0x00, 0x07, 0xFF, 0xFE], .ok ⟨6, ⟨1, .BSET, some (.imm8 7), some (.arDisp 1 ⟨-2, 0, none, none⟩),
      none⟩⟩)
  , ([0x06, 0xCA], .ok ⟨2, ⟨0, .RTM, some (.ar 2), none, none⟩⟩)
  , ([0x06, 0xE8, 0x00, 0x04, 0x01, 0x00], .ok ⟨6, ⟨0, .CALLM, some (.imm8 4), some (.arDisp 0 ⟨256, 0, none,
      none⟩), none⟩⟩)
  , ([0x02, 0xD0, 0xA0, 0x00], .ok ⟨4, ⟨2, .CMP2, some (.arInd 0), some (.ar 2), none⟩⟩)
  , ([0x04, 0xE8, 0x18, 0x00, 0x00, 0x20], .ok ⟨6, ⟨4, .CHK2, some (.arDisp 0 ⟨32, 0, none, none⟩), some (.dr 1),
      none⟩⟩)
  , ([0x0C, 0xFC, 0x31, 0x42, 0x61, 0x04], .err .notImplemented)
  , ([0x0C, 0xD0, 0x00, 0x81], .ok ⟨4, ⟨2, .CAS, some (.dPair 1 2), some (.arInd 0), none⟩⟩)
  , ([0x00, 0x40, 0x80, 0x01], .ok ⟨4, ⟨2, .ORI, some (.imm16 0x8001), some (.dr 0), none⟩⟩)
  , ([0x02, 0x01, 0x00, 0xF0], .ok ⟨4, ⟨1, .ANDI, some (.imm8 240), some (.dr 1), none⟩⟩)
  , ([0x04, 0x90, 0x00, 0x00, 0x00, 0x10], .ok ⟨6, ⟨4, .SUBI, some (.imm32 0x00000010), some (.arInd 0), none⟩⟩)
  , ([0x06, 0x79, 0x01, 0x00, 0x00, 0x01, 0x00, 0x00], .ok ⟨8, ⟨2, .ADDI, some (.imm16 0x0100), some (.abs32
      0x00010000), none⟩⟩)
  , ([0x0A, 0x02, 0x12, 0x34], .ok ⟨4, ⟨1, .EORI, some (.imm8 52), some (.dr 2), none⟩⟩)
  , ([0x0C, 0x3A, 0x00, 0x11, 0xFF, 0xF0], .ok ⟨6, ⟨1, .CMPI, some (.imm8 17), some (.pcDisp 4 ⟨-16, 0, none,
      none⟩), none⟩⟩)
  , ([0x0E, 0x50, 0x98, 0x00], .ok ⟨4, ⟨2, .MOVES, some (.ar 1), some (.arInd 0), none⟩⟩) ]
    : List (List Byte × CallResult)).all (fun t => decodeCall t.1 == some t.2) = true := by
  decide +kernel

/-- Source: the `Example` lines of 41_move.md. -/
theorem test_call_moves : (
  [ ([0x12, 0x00], .ok ⟨2, ⟨1, .MOVE, some (.dr 0), some (.dr 1), none⟩⟩)
  , ([0x24, 0x7C, 0x00, 0x01, 0x00, 0x00], .ok ⟨6, ⟨4, .MOVEA, some (.imm32 0x00010000), some (.ar 2), none⟩⟩) ]
    : List (List Byte × CallResult)).all (fun t => decodeCall t.1 == some t.2) = true := by
  decide +kernel

/-- Source: the `Example` lines of 42_group4.md. -/
theorem test_call_group0100 : (
  [ ([0x4A, 0xFC], .ok ⟨2, ⟨0, .ILLEGAL, none, none, none⟩⟩)
  , ([0x4A, 0xFA], .ok ⟨2, ⟨0, .BGND, none, none, none⟩⟩)
  , ([0x4E, 0x70], .ok ⟨2, ⟨0, .RESET, none, none, none⟩⟩)
  , ([0x4E, 0x71], .ok ⟨2, ⟨0, .NOP, none, none, none⟩⟩)
  , ([0x4E, 0x72, 0x27, 0x00], .ok ⟨4, ⟨0, .STOP, some (.imm16 0x2700), none, none⟩⟩)
  , ([0x4E, 0x73], .ok ⟨2, ⟨0, .RTE, none, none, none⟩⟩)
  , ([0x4E, 0x74, 0xFF, 0xF8], .ok ⟨4, ⟨0, .RTD, some (.imm16 0xFFF8), none, none⟩⟩)
  , ([0x4E, 0x75], .ok ⟨2, ⟨0, .RTS, none, none, none⟩⟩)
  , ([0x4E, 0x76], .ok ⟨2, ⟨0, .TRAPV, none, none, none⟩⟩)
  , ([0x4E, 0x77], .ok ⟨2, ⟨0, .RTR, none, none, none⟩⟩)
  , ([0x4E, 0x7A, 0x08, 0x01], .ok ⟨4, ⟨4, .MOVEC, some (.controlReg 0x801), some (.dr 0), none⟩⟩)
  , ([0x4E, 0x7B, 0x90, 0x02], .ok ⟨4, ⟨4, .MOVEC, some (.ar 1), some (.controlReg 0x002), none⟩⟩)
  , ([0x4E, 0x4F], .ok ⟨2, ⟨0, .TRAP, some (.imm8 15), none, none⟩⟩)
  , ([0x4E, 0x56, 0xFF, 0xF0], .ok ⟨4, ⟨2, .LINK, some (.ar 6), some (.imm16 0xFFF0), none⟩⟩)
  , ([0x4E, 0x5E], .ok ⟨2, ⟨0, .UNLK, some (.ar 6), none, none⟩⟩)
  , ([0x4E, 0x61], .ok ⟨2, ⟨4, .MOVETOUSP, some (.ar 1), some .implied, none⟩⟩)
  , ([0x4E, 0x6E], .ok ⟨2, ⟨4, .MOVEFROMUSP, some .implied, some (.ar 6), none⟩⟩)
  , ([0x4E, 0xB9, 0x00, 0x00, 0x10, 0x00], .ok ⟨6, ⟨0, .JSR, some (.abs32 0x00001000), none, none⟩⟩)
  , ([0x4E, 0xFB, 0x00, 0x06], .ok ⟨4, ⟨0, .JMP, some (.pcDisp 2 ⟨6, 0, some ⟨false, 0, 0⟩, none⟩), none, none⟩⟩)
  , ([0x48, 0x0E, 0xFF, 0xFF, 0xFF, 0x00], .ok ⟨6, ⟨4, .LINK, some (.ar 6), some (.imm32 0xFFFFFF00), none⟩⟩)
  , ([0x48, 0x03], .ok ⟨2, ⟨1, .NBCD, some (.dr 3), none, none⟩⟩)
  , ([0x48, 0x45], .ok ⟨2, ⟨2, .SWAP, some (.dr 5), none, none⟩⟩)
  , ([0x48, 0x4B], .ok ⟨2, ⟨0, .BKPT, some (.imm8 3), none, none⟩⟩)
  , ([0x48, 0x7A, 0x00, 0x10], .ok ⟨4, ⟨4, .PEA, some (.pcDisp 2 ⟨16, 0, none, none⟩), none, none⟩⟩)
  , ([0x48, 0x82], .ok ⟨2, ⟨2, .EXT, some (.dr 2), none, none⟩⟩)
  , ([0x48, 0xC2], .ok ⟨2, ⟨4, .EXT, some (.dr 2), none, none⟩⟩)
  , ([0x49, 0xC2], .ok ⟨2, ⟨4, .EXTB, some (.dr 2), none, none⟩⟩)
  , ([0x48, 0xE7, 0xC0, 0xC0], .ok ⟨4, ⟨4, .MOVEM, some (.regList 0x0303), some (.arDec 7), none⟩⟩)
  , ([0x4C, 0xDF, 0x03, 0x03], .ok ⟨4, ⟨4, .MOVEM, some (.arInc 7), some (.regList 0x0303), none⟩⟩)
  , ([0x40, 0xE7], .ok ⟨2, ⟨2, .MOVEFROMSR, some .implied, some (.arDec 7), none⟩⟩)
  , ([0x42, 0xE7], .ok ⟨2, ⟨2, .MOVEFROMCCR, some .implied, some (.arDec 7), none⟩⟩)
  , ([0x44, 0xFC, 0x00, 0x1F], .ok ⟨4, ⟨2, .MOVETOCCR, some (.imm16 0x001F), some .implied, none⟩⟩)
  , ([0x46, 0xFC, 0x00, 0x1F], .ok ⟨4, ⟨2, .MOVETOSR, some (.imm16 0x001F), some .implied, none⟩⟩)
  , ([0x40, 0x80], .ok ⟨2, ⟨4, .NEGX, some (.dr 0), none, none⟩⟩)
  , ([0x42, 0x58], .ok ⟨2, ⟨2, .CLR, some (.arInc 0), none, none⟩⟩)
  , ([0x44, 0x39, 0x00, 0xFF, 0x80, 0x00], .ok ⟨6, ⟨1, .NEG, some (.abs32 0x00FF8000), none, none⟩⟩)
  , ([0x46, 0x50], .ok ⟨2, ⟨2, .NOT, some (.arInd 0), none, none⟩⟩)
  , ([0x4A, 0xD1], .ok ⟨2, ⟨1, .TAS, some (.arInd 1), none, none⟩⟩)
  , ([0x4A, 0x6C, 0xFF, 0xFC], .ok ⟨4, ⟨2, .TST, some (.arDisp 4 ⟨-4, 0, none, none⟩), none, none⟩⟩)
  , ([0x4C, 0x01, 0x20, 0x00], .ok ⟨4, ⟨4, .MULU, some (.dr 1), some (.dr 2), none⟩⟩)
  , ([0x4C, 0x3C, 0x1C, 0x03, 0x00, 0x00, 0x00, 0x64], .ok ⟨8, ⟨4, .MULS, some (.imm32 0x00000064), some (.dPair 3
      1), none⟩⟩)
  , ([0x4C, 0x41, 0x24, 0x03], .ok ⟨4, ⟨4, .DIVU, some (.dr 1), some (.dPair 3 2), none⟩⟩)
  , ([0x4C, 0x42, 0x10, 0x02], .ok ⟨4, ⟨4, .DIVUL, some (.dr 2), some (.dPair 2 1), none⟩⟩)
  , ([0x4C, 0x41, 0x2C, 0x03], .ok ⟨4, ⟨4, .DIVS, some (.dr 1), some (.dPair 3 2), none⟩⟩)
  , ([0x4C, 0x42, 0x18, 0x01], .ok ⟨4, ⟨4, .DIVS, some (.dr 2), some (.dr 1), none⟩⟩)
  , ([0x43, 0x3C, 0x00, 0x00, 0x01, 0x00], .ok ⟨6, ⟨4, .CHK, some (.imm32 0x00000100), some (.dr 1), none⟩⟩)
  , ([0x43, 0xBC, 0x01, 0x00], .ok ⟨4, ⟨2, .CHK, some (.imm16 0x0100), some (.dr 1), none⟩⟩)
  , ([0x43, 0xE8, 0x00, 0x08], .ok ⟨4, ⟨4, .LEA, some (.arDisp 0 ⟨8, 0, none, none⟩), some (.ar 1), none⟩⟩) ]
    : List (List Byte × CallResult)).all (fun t => decodeCall t.1 == some t.2) = true := by
  decide +kernel

/-- Source: the `Example` lines of 43_group5.md. -/
theorem test_call_group0101 : (
  [ ([0x51, 0xC9, 0xFF, 0xFE], .ok ⟨4, ⟨2, .DBCC, some (.dr 1), some (.pcDisp 2 ⟨-2, 0, none, none⟩), some
      (.condCode .F)⟩⟩)
  , ([0x57, 0xFA, 0x12, 0x34], .ok ⟨4, ⟨2, .TRAPCC, some (.imm16 0x1234), none, some (.condCode .EQ)⟩⟩)
  , ([0x57, 0xFB, 0x00, 0x00, 0x00, 0x01], .ok ⟨6, ⟨4, .TRAPCC, some (.imm32 0x00000001), none, some (.condCode
      .EQ)⟩⟩)
  , ([0x57, 0xFC], .ok ⟨2, ⟨0, .TRAPCC, none, none, some (.condCode .EQ)⟩⟩)
  , ([0x57, 0xC0], .ok ⟨2, ⟨1, .SCC, some (.dr 0), none, some (.condCode .EQ)⟩⟩)
  , ([0x50, 0x88], .ok ⟨2, ⟨4, .ADDQ, some (.imm8 8), some (.ar 0), none⟩⟩)
  , ([0x5F, 0x4F], .ok ⟨2, ⟨2, .SUBQ, some (.imm8 7), some (.ar 7), none⟩⟩) ]
    : List (List Byte × CallResult)).all (fun t => decodeCall t.1 == some t.2) = true := by
  decide +kernel

/-- Source: the `Example` lines of 44_group6_7.md. -/
theorem test_call_branches : (
  [ ([0x60, 0xFE], .ok ⟨2, ⟨1, .BRA, some (.pcDisp 2 ⟨-2, 0, none, none⟩), none, none⟩⟩)
  , ([0x61, 0x00, 0x01, 0x00], .ok ⟨4, ⟨2, .BSR, some (.pcDisp 2 ⟨256, 0, none, none⟩), none, none⟩⟩)
  , ([0x67, 0xFF, 0xFF, 0xFF, 0xFF, 0x00], .ok ⟨6, ⟨4, .BCC, some (.pcDisp 2 ⟨-256, 0, none, none⟩), none, some
      (.condCode .EQ)⟩⟩)
  , ([0x72, 0xFF], .ok ⟨2, ⟨4, .MOVEQ, some (.imm8 255), some (.dr 1), none⟩⟩) ]
    : List (List Byte × CallResult)).all (fun t => decodeCall t.1 == some t.2) = true := by
  decide +kernel

/-- Source: the `Example` lines of 45_arith_logic.md. -/
theorem test_call_arith_logic : (
  [ ([0x82, 0xC3], .ok ⟨2, ⟨2, .DIVU, some (.dr 3), some (.dr 1), none⟩⟩)
  , ([0x81, 0xFC, 0xFF, 0xFF], .ok ⟨4, ⟨2, .DIVS, some (.imm16 0xFFFF), some (.dr 0), none⟩⟩)
  , ([0x83, 0x09], .ok ⟨2, ⟨1, .SBCD, some (.arDec 1), some (.arDec 1), none⟩⟩)
  , ([0x85, 0x41, 0x30, 0x30], .ok ⟨4, ⟨0, .PACK, some (.dr 1), some (.dr 2), some (.packAdjust 0x3030)⟩⟩)
  , ([0x85, 0x88, 0x30, 0x30], .ok ⟨4, ⟨0, .UNPK, some (.arDec 0), some (.arDec 2), some (.packAdjust 0x3030)⟩⟩)
  , ([0x82, 0x10], .ok ⟨2, ⟨1, .OR, some (.arInd 0), some (.dr 1), none⟩⟩)
  , ([0x93, 0xC8], .ok ⟨2, ⟨4, .SUBA, some (.ar 0), some (.ar 1), none⟩⟩)
  , ([0x93, 0x89], .ok ⟨2, ⟨4, .SUBX, some (.arDec 1), some (.arDec 1), none⟩⟩)
  , ([0x90, 0x81], .ok ⟨2, ⟨4, .SUB, some (.dr 1), some (.dr 0), none⟩⟩)
  , ([0xB5, 0xFC, 0x00, 0x00, 0x10, 0x00], .ok ⟨6, ⟨4, .CMPA, some (.imm32 0x00001000), some (.ar 2), none⟩⟩)
  , ([0xB5, 0x49], .ok ⟨2, ⟨2, .CMPM, some (.arInc 1), some (.arInc 2), none⟩⟩)
  , ([0xB0, 0x7C, 0x00, 0x10], .ok ⟨4, ⟨2, .CMP, some (.imm16 0x0010), some (.dr 0), none⟩⟩)
  , ([0xB9, 0x52], .ok ⟨2, ⟨2, .EOR, some (.dr 4), some (.arInd 2), none⟩⟩)
  , ([0xC2, 0xC1], .ok ⟨2, ⟨2, .MULU, some (.dr 1), some (.dr 1), none⟩⟩)
  , ([0xC3, 0xFC, 0xFF, 0xFE], .ok ⟨4, ⟨2, .MULS, some (.imm16 0xFFFE), some (.dr 1), none⟩⟩)
  , ([0xC1, 0x01], .ok ⟨2, ⟨1, .ABCD, some (.dr 1), some (.dr 0), none⟩⟩)
  , ([0xC3, 0x8F], .ok ⟨2, ⟨4, .EXG, some (.dr 1), some (.ar 7), none⟩⟩)
  , ([0xC0, 0x7C, 0x00, 0xFF], .ok ⟨4, ⟨2, .AND, some (.imm16 0x00FF), some (.dr 0), none⟩⟩)
  , ([0xD1, 0xC9], .ok ⟨2, ⟨4, .ADDA, some (.ar 1), some (.ar 0), none⟩⟩)
  , ([0xD3, 0x80], .ok ⟨2, ⟨4, .ADDX, some (.dr 0), some (.dr 1), none⟩⟩)
  , ([0xD2, 0x91], .ok ⟨2, ⟨4, .ADD, some (.arInd 1), some (.dr 1), none⟩⟩) ]
    : List (List Byte × CallResult)).all (fun t => decodeCall t.1 == some t.2) = true := by
  decide +kernel

/-- Source: the `Example` lines of 46_group_e.md. -/
theorem test_call_group1110 : (
  [ ([0xE8, 0xC1, 0x08, 0x20], .ok ⟨4, ⟨0, .BFTST, some (.dr 1), none, some (.bitfield (.dynamic 0) (.dynamic 0))⟩⟩)
  , ([0xE9, 0xD0, 0x31, 0x48], .ok ⟨4, ⟨0, .BFEXTU, some (.arInd 0), some (.dr 3), some (.bitfield (.static 5)
      (.static 8))⟩⟩)
  , ([0xEA, 0xD4, 0x03, 0x07], .ok ⟨4, ⟨0, .BFCHG, some (.arInd 4), none, some (.bitfield (.static 12) (.static 7))⟩⟩)
  , ([0xEB, 0xE8, 0x58, 0x00, 0x00, 0x04], .ok ⟨6, ⟨0, .BFEXTS, some (.arDisp 0 ⟨4, 0, none, none⟩), some (.dr 5),
      some (.bitfield (.dynamic 0) (.static 32))⟩⟩)
  , ([0xEC, 0xF9, 0x00, 0x00, 0x20, 0x00, 0x00, 0x00], .ok ⟨8, ⟨0, .BFCLR, some (.abs32 0x20000000), none, some
      (.bitfield (.static 32) (.static 32))⟩⟩)
  , ([0xED, 0xC3, 0x2F, 0xE1], .ok ⟨4, ⟨0, .BFFFO, some (.dr 3), some (.dr 2), some (.bitfield (.dynamic 7)
      (.dynamic 1))⟩⟩)
  , ([0xEE, 0xD0, 0x07, 0xC5], .ok ⟨4, ⟨0, .BFSET, some (.arInd 0), none, some (.bitfield (.static 31) (.static 5))⟩⟩)
  , ([0xEF, 0xC2, 0x70, 0xC8], .ok ⟨4, ⟨0, .BFINS, some (.dr 7), some (.dr 2), some (.bitfield (.static 3) (.static
      8))⟩⟩)
  , ([0xE0, 0xD3], .ok ⟨2, ⟨2, .ASR, some (.arInd 3), none, none⟩⟩)
  , ([0xE1, 0xD3], .ok ⟨2, ⟨2, .ASL, some (.arInd 3), none, none⟩⟩)
  , ([0xE2, 0xD3], .ok ⟨2, ⟨2, .LSR, some (.arInd 3), none, none⟩⟩)
  , ([0xE3, 0xD3], .ok ⟨2, ⟨2, .LSL, some (.arInd 3), none, none⟩⟩)
  , ([0xE4, 0xD3], .ok ⟨2, ⟨2, .ROXR, some (.arInd 3), none, none⟩⟩)
  , ([0xE5, 0xD3], .ok ⟨2, ⟨2, .ROXL, some (.arInd 3), none, none⟩⟩)
  , ([0xE6, 0xD3], .ok ⟨2, ⟨2, .ROR, some (.arInd 3), none, none⟩⟩)
  , ([0xE7, 0xD3], .ok ⟨2, ⟨2, .ROL, some (.arInd 3), none, none⟩⟩)
  , ([0xEA, 0x61], .ok ⟨2, ⟨2, .ASR, some (.dr 5), some (.dr 1), none⟩⟩)
  , ([0xE7, 0x07], .ok ⟨2, ⟨1, .ASL, some (.imm8 3), some (.dr 7), none⟩⟩)
  , ([0xEA, 0x69], .ok ⟨2, ⟨2, .LSR, some (.dr 5), some (.dr 1), none⟩⟩)
  , ([0xEB, 0x69], .ok ⟨2, ⟨2, .LSL, some (.dr 5), some (.dr 1), none⟩⟩)
  , ([0xEA, 0x71], .ok ⟨2, ⟨2, .ROXR, some (.dr 5), some (.dr 1), none⟩⟩)
  , ([0xEB, 0x71], .ok ⟨2, ⟨2, .ROXL, some (.dr 5), some (.dr 1), none⟩⟩)
  , ([0xEA, 0x79], .ok ⟨2, ⟨2, .ROR, some (.dr 5), some (.dr 1), none⟩⟩)
  , ([0xEB, 0x79], .ok ⟨2, ⟨2, .ROL, some (.dr 5), some (.dr 1), none⟩⟩) ]
    : List (List Byte × CallResult)).all (fun t => decodeCall t.1 == some t.2) = true := by
  decide +kernel

/-- Source: the `Example` lines of 47_fpu_ops.md. -/
theorem test_call_fpu_ops : (
  [ ([0xF2, 0x00, 0x5C, 0x8F], .ok ⟨4, ⟨10, .FMOVECR, some (.imm8 15), some (.fr 1), none⟩⟩)
  , ([0xF2, 0x2E, 0x44, 0x00, 0x00, 0x10], .ok ⟨6, ⟨4, .FMOVE, some (.arDisp 6 ⟨16, 0, none, none⟩), some (.fr 0),
      some (.fpFormat .single)⟩⟩)
  , ([0xF2, 0x00, 0x05, 0x01], .ok ⟨4, ⟨10, .FINT, some (.fr 1), some (.fr 2), none⟩⟩)
  , ([0xF2, 0x12, 0x40, 0x82], .ok ⟨4, ⟨4, .FSINH, some (.arInd 2), some (.fr 1), some (.fpFormat .long)⟩⟩)
  , ([0xF2, 0x12, 0x40, 0x83], .ok ⟨4, ⟨4, .FINTRZ, some (.arInd 2), some (.fr 1), some (.fpFormat .long)⟩⟩)
  , ([0xF2, 0x00, 0x05, 0x04], .ok ⟨4, ⟨10, .FSQRT, some (.fr 1), some (.fr 2), none⟩⟩)
  , ([0xF2, 0x12, 0x40, 0x86], .ok ⟨4, ⟨4, .FLOGNP1, some (.arInd 2), some (.fr 1), some (.fpFormat .long)⟩⟩)
  , ([0xF2, 0x00, 0x05, 0x08], .ok ⟨4, ⟨10, .FETOXM1, some (.fr 1), some (.fr 2), none⟩⟩)
  , ([0xF2, 0x00, 0x05, 0x09], .ok ⟨4, ⟨10, .FTANH, some (.fr 1), some (.fr 2), none⟩⟩)
  , ([0xF2, 0x12, 0x40, 0x8A], .ok ⟨4, ⟨4, .FATAN, some (.arInd 2), some (.fr 1), some (.fpFormat .long)⟩⟩)
  , ([0xF2, 0x00, 0x05, 0x0C], .ok ⟨4, ⟨10, .FASIN, some (.fr 1), some (.fr 2), none⟩⟩)
  , ([0xF2, 0x00, 0x05, 0x0D], .ok ⟨4, ⟨10, .FATANH, some (.fr 1), some (.fr 2), none⟩⟩)
  , ([0xF2, 0x12, 0x40, 0x8E], .ok ⟨4, ⟨4, .FSIN, some (.arInd 2), some (.fr 1), some (.fpFormat .long)⟩⟩)
  , ([0xF2, 0x12, 0x40, 0x8F], .ok ⟨4, ⟨4, .FTAN, some (.arInd 2), some (.fr 1), some (.fpFormat .long)⟩⟩)
  , ([0xF2, 0x00, 0x05, 0x10], .ok ⟨4, ⟨10, .FETOX, some (.fr 1), some (.fr 2), none⟩⟩)
  , ([0xF2, 0x00, 0x05, 0x11], .ok ⟨4, ⟨10, .FTWOTOX, some (.fr 1), some (.fr 2), none⟩⟩)
  , ([0xF2, 0x12, 0x40, 0x92], .ok ⟨4, ⟨4, .FTENTOX, some (.arInd 2), some (.fr 1), some (.fpFormat .long)⟩⟩)
  , ([0xF2, 0x00, 0x05, 0x14], .ok ⟨4, ⟨10, .FLOGN, some (.fr 1), some (.fr 2), none⟩⟩)
  , ([0xF2, 0x00, 0x05, 0x15], .ok ⟨4, ⟨10, .FLOG10, some (.fr 1), some (.fr 2), none⟩⟩)
  , ([0xF2, 0x12, 0x40, 0x96], .ok ⟨4, ⟨4, .FLOG2, some (.arInd 2), some (.fr 1), some (.fpFormat .long)⟩⟩)
  , ([0xF2, 0x00, 0x04, 0x98], .ok ⟨4, ⟨10, .FABS, some (.fr 1), some (.fr 1), none⟩⟩)
  , ([0xF2, 0x00, 0x05, 0x19], .ok ⟨4, ⟨10, .FCOSH, some (.fr 1), some (.fr 2), none⟩⟩)
  , ([0xF2, 0x12, 0x40, 0x9A], .ok ⟨4, ⟨4, .FNEG, some (.arInd 2), some (.fr 1), some (.fpFormat .long)⟩⟩)
  , ([0xF2, 0x00, 0x05, 0x1C], .ok ⟨4, ⟨10, .FACOS, some (.fr 1), some (.fr 2), none⟩⟩)
  , ([0xF2, 0x00, 0x05, 0x1D], .ok ⟨4, ⟨10, .FCOS, some (.fr 1), some (.fr 2), none⟩⟩)
  , ([0xF2, 0x12, 0x40, 0x9E], .ok ⟨4, ⟨4, .FGETEXP, some (.arInd 2), some (.fr 1), some (.fpFormat .long)⟩⟩)
  , ([0xF2, 0x12, 0x40, 0x9F], .ok ⟨4, ⟨4, .FGETMAN, some (.arInd 2), some (.fr 1), some (.fpFormat .long)⟩⟩) ]
    : List (List Byte × CallResult)).all (fun t => decodeCall t.1 == some t.2) = true := by
  decide +kernel

/-- Source: the `Example` lines of 48_fpu_ops2.md. -/
theorem test_call_fpu_ops2 : (
  [ ([0xF2, 0x00, 0x04, 0x20], .ok ⟨4, ⟨10, .FDIV, some (.fr 1), some (.fr 0), none⟩⟩)
  , ([0xF2, 0x00, 0x05, 0x21], .ok ⟨4, ⟨10, .FMOD, some (.fr 1), some (.fr 2), none⟩⟩)
  , ([0xF2, 0x3C, 0x44, 0x22, 0x3F, 0x80, 0x00, 0x00], .ok ⟨8, ⟨4, .FADD, some (.imm32 0x3F800000), some (.fr 0),
      some (.fpFormat .single)⟩⟩)
  , ([0xF2, 0x12, 0x40, 0xA3], .ok ⟨4, ⟨4, .FMUL, some (.arInd 2), some (.fr 1), some (.fpFormat .long)⟩⟩)
  , ([0xF2, 0x00, 0x05, 0x24], .ok ⟨4, ⟨10, .FSGLDIV, some (.fr 1), some (.fr 2), none⟩⟩)
  , ([0xF2, 0x00, 0x05, 0x25], .ok ⟨4, ⟨10, .FREM, some (.fr 1), some (.fr 2), none⟩⟩)
  , ([0xF2, 0x12, 0x40, 0xA6], .ok ⟨4, ⟨4, .FSCALE, some (.arInd 2), some (.fr 1), some (.fpFormat .long)⟩⟩)
  , ([0xF2, 0x12, 0x40, 0xA7], .ok ⟨4, ⟨4, .FSGLMUL, some (.arInd 2), some (.fr 1), some (.fpFormat .long)⟩⟩)
  , ([0xF2, 0x00, 0x05, 0x28], .ok ⟨4, ⟨10, .FSUB, some (.fr 1), some (.fr 2), none⟩⟩)
  , ([0xF2, 0x00, 0x0D, 0x31], .ok ⟨4, ⟨10, .FSINCOS, some (.fr 3), some (.fPair 1 2), none⟩⟩)
  , ([0xF2, 0x3C, 0x58, 0x38, 0x00, 0x01], .ok ⟨6, ⟨1, .FCMP, some (.imm8 1), some (.fr 0), some (.fpFormat .byte)⟩⟩)
  , ([0xF2, 0x10, 0x40, 0x3A], .ok ⟨4, ⟨4, .FTST, some (.arInd 0), none, some (.fpFormat .long)⟩⟩)
  , ([0xF2, 0x00, 0x05, 0x40], .ok ⟨4, ⟨10, .FSMOVE, some (.fr 1), some (.fr 2), none⟩⟩)
  , ([0xF2, 0x00, 0x05, 0x41], .ok ⟨4, ⟨10, .FSSQRT, some (.fr 1), some (.fr 2), none⟩⟩)
  , ([0xF2, 0x00, 0x05, 0x44], .ok ⟨4, ⟨10, .FDMOVE, some (.fr 1), some (.fr 2), none⟩⟩)
  , ([0xF2, 0x00, 0x05, 0x45], .ok ⟨4, ⟨10, .FDSQRT, some (.fr 1), some (.fr 2), none⟩⟩)
  , ([0xF2, 0x00, 0x05, 0x58], .ok ⟨4, ⟨10, .FSABS, some (.fr 1), some (.fr 2), none⟩⟩)
  , ([0xF2, 0x12, 0x40, 0xDA], .ok ⟨4, ⟨4, .FSNEG, some (.arInd 2), some (.fr 1), some (.fpFormat .long)⟩⟩)
  , ([0xF2, 0x00, 0x05, 0x5C], .ok ⟨4, ⟨10, .FDABS, some (.fr 1), some (.fr 2), none⟩⟩)
  , ([0xF2, 0x12, 0x40, 0xDE], .ok ⟨4, ⟨4, .FDNEG, some (.arInd 2), some (.fr 1), some (.fpFormat .long)⟩⟩)
  , ([0xF2, 0x00, 0x05, 0x60], .ok ⟨4, ⟨10, .FSDIV, some (.fr 1), some (.fr 2), none⟩⟩)
  , ([0xF2, 0x12, 0x40, 0xE2], .ok ⟨4, ⟨4, .FSADD, some (.arInd 2), some (.fr 1), some (.fpFormat .long)⟩⟩)
  , ([0xF2, 0x12, 0x40, 0xE3], .ok ⟨4, ⟨4, .FSMUL, some (.arInd 2), some (.fr 1), some (.fpFormat .long)⟩⟩)
  , ([0xF2, 0x00, 0x05, 0x64], .ok ⟨4, ⟨10, .FDDIV, some (.fr 1), some (.fr 2), none⟩⟩)
  , ([0xF2, 0x12, 0x40, 0xE6], .ok ⟨4, ⟨4, .FDADD, some (.arInd 2), some (.fr 1), some (.fpFormat .long)⟩⟩)
  , ([0xF2, 0x12, 0x40, 0xE7], .ok ⟨4, ⟨4, .FDMUL, some (.arInd 2), some (.fr 1), some (.fpFormat .long)⟩⟩)
  , ([0xF2, 0x00, 0x05, 0x68], .ok ⟨4, ⟨10, .FSSUB, some (.fr 1), some (.fr 2), none⟩⟩)
  , ([0xF2, 0x00, 0x05, 0x6C], .ok ⟨4, ⟨10, .FDSUB, some (.fr 1), some (.fr 2), none⟩⟩) ]
    : List (List Byte × CallResult)).all (fun t => decodeCall t.1 == some t.2) = true := by
  decide +kernel

/-- Source: the `Example` lines of 49_fpu_control.md. -/
theorem test_call_fpu_control : (
  [ ([0xF2, 0x28, 0x6C, 0xFF, 0x00, 0x08], .ok ⟨6, ⟨12, .FMOVE, some (.fr 1), some (.arDisp 0 ⟨8, 0, none, none⟩),
      some (.fpFormat (.packedStatic (-1)))⟩⟩)
  , ([0xF2, 0x00, 0x90, 0x00], .ok ⟨4, ⟨4, .FMOVE, some (.dr 0), some (.controlReg 0x004), none⟩⟩)
  , ([0xF2, 0x27, 0xA8, 0x00], .ok ⟨4, ⟨4, .FMOVE, some (.controlReg 0x002), some (.arDec 7), none⟩⟩)
  , ([0xF2, 0x1F, 0x9C, 0x00], .ok ⟨4, ⟨4, .FMOVEM, some (.arInc 7), some (.controlReg 0x007), none⟩⟩)
  , ([0xF2, 0x27, 0xBC, 0x00], .ok ⟨4, ⟨4, .FMOVEM, some (.controlReg 0x007), some (.arDec 7), none⟩⟩)
  , ([0xF2, 0x1F, 0xD0, 0xC0], .ok ⟨4, ⟨10, .FMOVEM, some (.arInc 7), some (.regList 0x0003), none⟩⟩)
  , ([0xF2, 0x27, 0xE0, 0x03], .ok ⟨4, ⟨10, .FMOVEM, some (.regList 0x0003), some (.arDec 7), none⟩⟩)
  , ([0xF2, 0x49, 0x00, 0x0E, 0xFF, 0xFC], .ok ⟨6, ⟨2, .FDBCC, some (.dr 1), some (.pcDisp 4 ⟨-4, 0, none, none⟩),
      some (.fpCondCode .NE)⟩⟩)
  , ([0xF2, 0x7A, 0x00, 0x01, 0x12, 0x34], .ok ⟨6, ⟨2, .FTRAPCC, some (.imm16 0x1234), none, some (.fpCondCode .EQ)⟩⟩)
  , ([0xF2, 0x7B, 0x00, 0x12, 0x00, 0x00, 0x00, 0x01], .ok ⟨8, ⟨4, .FTRAPCC, some (.imm32 0x00000001), none, some
      (.fpCondCode .GT)⟩⟩)
  , ([0xF2, 0x7C, 0x00, 0x1F], .ok ⟨4, ⟨0, .FTRAPCC, none, none, some (.fpCondCode .ST)⟩⟩)
  , ([0xF2, 0x50, 0x00, 0x12], .ok ⟨4, ⟨1, .FSCC, some (.arInd 0), none, some (.fpCondCode .GT)⟩⟩)
  , ([0xF2, 0x80, 0x00, 0x00], .ok ⟨4, ⟨0, .FNOP, none, none, none⟩⟩)
  , ([0xF2, 0x81, 0x00, 0x10], .ok ⟨4, ⟨2, .FBCC, some (.pcDisp 2 ⟨16, 0, none, none⟩), none, some (.fpCondCode
      .EQ)⟩⟩)
  , ([0xF2, 0xCF, 0x00, 0x00, 0x01, 0x00], .ok ⟨6, ⟨4, .FBCC, some (.pcDisp 2 ⟨256, 0, none, none⟩), none, some
      (.fpCondCode .T)⟩⟩)
  , ([0xF3, 0x27], .ok ⟨2, ⟨0, .FSAVE, some (.arDec 7), none, none⟩⟩)
  , ([0xF3, 0x5F], .ok ⟨2, ⟨0, .FRESTORE, some (.arInc 7), none, none⟩⟩) ]
    : List (List Byte × CallResult)).all (fun t => decodeCall t.1 == some t.2) = true := by
  decide +kernel

/-! Decode calls: the vectors of 95_test_vectors.md sections 1 and 3 to 6. -/

/-- Source: 95_test_vectors.md section 1. -/
theorem test_vectors_source_examples : (
  [ ([0x12, 0x00], .ok ⟨2, ⟨1, .MOVE, some (.dr 0), some (.dr 1), none⟩⟩)
  , ([0x43, 0xE8, 0x00, 0x08], .ok ⟨4, ⟨4, .LEA, some (.arDisp 0 ⟨8, 0, none, none⟩), some (.ar 1), none⟩⟩)
  , ([0xE7, 0x07], .ok ⟨2, ⟨1, .ASL, some (.imm8 3), some (.dr 7), none⟩⟩)
  , ([0xF2, 0x00, 0x04, 0x98], .ok ⟨4, ⟨10, .FABS, some (.fr 1), some (.fr 1), none⟩⟩)
  , ([0xEA, 0xD4, 0x03, 0x07], .ok ⟨4, ⟨0, .BFCHG, some (.arInd 4), none, some (.bitfield (.static 12) (.static 7))⟩⟩)
  , ([0xA0, 0x00], .err .notImplemented) ]
    : List (List Byte × CallResult)).all (fun t => decodeCall t.1 == some t.2) = true := by
  decide +kernel

/-- Source: 95_test_vectors.md section 3. -/
theorem test_vectors_addressing_modes : (
  [ ([0x30, 0x10], .ok ⟨2, ⟨2, .MOVE, some (.arInd 0), some (.dr 0), none⟩⟩)
  , ([0x30, 0x48], .ok ⟨2, ⟨2, .MOVEA, some (.ar 0), some (.ar 0), none⟩⟩)
  , ([0x30, 0x10], .ok ⟨2, ⟨2, .MOVE, some (.arInd 0), some (.dr 0), none⟩⟩)
  , ([0x30, 0x18], .ok ⟨2, ⟨2, .MOVE, some (.arInc 0), some (.dr 0), none⟩⟩)
  , ([0x30, 0x20], .ok ⟨2, ⟨2, .MOVE, some (.arDec 0), some (.dr 0), none⟩⟩)
  , ([0x30, 0x28, 0xFF, 0xFE], .ok ⟨4, ⟨2, .MOVE, some (.arDisp 0 ⟨-2, 0, none, none⟩), some (.dr 0), none⟩⟩)
  , ([0x30, 0x28], .err .outOfSpace)
  , ([0x30, 0x30, 0x12, 0x34], .ok ⟨4, ⟨2, .MOVE, some (.arDisp 0 ⟨52, 0, some ⟨false, 1, 1⟩, none⟩), some (.dr 0),
      none⟩⟩)
  , ([0x30, 0x30, 0x9E, 0x80], .ok ⟨4, ⟨2, .MOVE, some (.arDisp 0 ⟨-128, 0, some ⟨true, 1, 3⟩, none⟩), some (.dr 0),
      none⟩⟩)
  , ([0x30, 0x38, 0x80, 0x00], .ok ⟨4, ⟨2, .MOVE, some (.abs16 (-32768)), some (.dr 0), none⟩⟩)
  , ([0x30, 0x39, 0x80, 0x00, 0x00, 0x00], .ok ⟨6, ⟨2, .MOVE, some (.abs32 0x80000000), some (.dr 0), none⟩⟩)
  , ([0x30, 0x3A, 0x00, 0x10], .ok ⟨4, ⟨2, .MOVE, some (.pcDisp 2 ⟨16, 0, none, none⟩), some (.dr 0), none⟩⟩)
  , ([0x30, 0x3B, 0x00, 0x06], .ok ⟨4, ⟨2, .MOVE, some (.pcDisp 2 ⟨6, 0, some ⟨false, 0, 0⟩, none⟩), some (.dr 0),
      none⟩⟩)
  , ([0x30, 0x3C, 0xAB, 0xCD], .ok ⟨4, ⟨2, .MOVE, some (.imm16 0xABCD), some (.dr 0), none⟩⟩)
  , ([0x10, 0x3C, 0x12, 0xAB], .ok ⟨4, ⟨1, .MOVE, some (.imm8 171), some (.dr 0), none⟩⟩)
  , ([0x20, 0x3C, 0x12, 0x34, 0x56, 0x78], .ok ⟨6, ⟨4, .MOVE, some (.imm32 0x12345678), some (.dr 0), none⟩⟩)
  , ([0x30, 0x3D], .err .badRegister)
  , ([0x30, 0x3E], .err .badRegister)
  , ([0x30, 0x3F], .err .badRegister)
  , ([0x4E, 0xBC], .err .badSize)
  , ([0xF2, 0x3C, 0x54, 0x00, 0x00, 0x00, 0x00, 0x00, 0x00, 0x00, 0x00, 0x00], .err .badSize) ]
    : List (List Byte × CallResult)).all (fun t => decodeCall t.1 == some t.2) = true := by
  decide +kernel

/-- Source: 95_test_vectors.md section 4. -/
theorem test_vectors_extension_words : (
  [ ([0x30, 0x30, 0x01, 0x10], .ok ⟨4, ⟨2, .MOVE, some (.arDisp 0 ⟨0, 0, some ⟨false, 0, 0⟩, none⟩), some (.dr 0),
      none⟩⟩)
  , ([0x30, 0x30, 0x01, 0x20, 0x7F, 0xFF], .ok ⟨6, ⟨2, .MOVE, some (.arDisp 0 ⟨32767, 0, some ⟨false, 0, 0⟩, none⟩),
      some (.dr 0), none⟩⟩)
  , ([0x30, 0x30, 0x01, 0x30, 0xFF, 0xFF, 0xFF, 0xFE], .ok ⟨8, ⟨2, .MOVE, some (.arDisp 0 ⟨-2, 0, some ⟨false, 0,
      0⟩, none⟩), some (.dr 0), none⟩⟩)
  , ([0x30, 0x30, 0x01, 0x00], .err .reserved)
  , ([0x30, 0x30, 0x01, 0x90], .ok ⟨4, ⟨2, .MOVE, some (.disp ⟨0, 0, some ⟨false, 0, 0⟩, none⟩), some (.dr 0), none⟩⟩)
  , ([0x30, 0x30, 0x01, 0x50], .ok ⟨4, ⟨2, .MOVE, some (.arDisp 0 ⟨0, 0, none, none⟩), some (.dr 0), none⟩⟩)
  , ([0x30, 0x30, 0x01, 0x11], .ok ⟨4, ⟨2, .MOVE, some (.arDisp 0 ⟨0, 0, some ⟨false, 0, 0⟩, some .preIndexed⟩),
      some (.dr 0), none⟩⟩)
  , ([0x30, 0x30, 0x01, 0x12, 0x00, 0x04], .ok ⟨6, ⟨2, .MOVE, some (.arDisp 0 ⟨0, 4, some ⟨false, 0, 0⟩, some
      .preIndexed⟩), some (.dr 0), none⟩⟩)
  , ([0x30, 0x30, 0x01, 0x13, 0x00, 0x00, 0x00, 0x04], .ok ⟨8, ⟨2, .MOVE, some (.arDisp 0 ⟨0, 4, some ⟨false, 0, 0⟩,
      some .preIndexed⟩), some (.dr 0), none⟩⟩)
  , ([0x30, 0x30, 0x01, 0x14], .err .reserved)
  , ([0x30, 0x30, 0x01, 0x15], .ok ⟨4, ⟨2, .MOVE, some (.arDisp 0 ⟨0, 0, some ⟨false, 0, 0⟩, some .postIndexed⟩),
      some (.dr 0), none⟩⟩)
  , ([0x30, 0x30, 0x01, 0x16, 0xFF, 0xFF], .ok ⟨6, ⟨2, .MOVE, some (.arDisp 0 ⟨0, -1, some ⟨false, 0, 0⟩, some
      .postIndexed⟩), some (.dr 0), none⟩⟩)
  , ([0x30, 0x30, 0x01, 0x17, 0x00, 0x00, 0x00, 0x08], .ok ⟨8, ⟨2, .MOVE, some (.arDisp 0 ⟨0, 8, some ⟨false, 0, 0⟩,
      some .postIndexed⟩), some (.dr 0), none⟩⟩)
  , ([0x30, 0x30, 0x01, 0x51], .ok ⟨4, ⟨2, .MOVE, some (.arDisp 0 ⟨0, 0, none, some .indirect⟩), some (.dr 0), none⟩⟩)
  , ([0x30, 0x30, 0x01, 0x52, 0x00, 0x02], .ok ⟨6, ⟨2, .MOVE, some (.arDisp 0 ⟨0, 2, none, some .indirect⟩), some
      (.dr 0), none⟩⟩)
  , ([0x30, 0x30, 0x01, 0x53, 0x00, 0x00, 0x00, 0x02], .ok ⟨8, ⟨2, .MOVE, some (.arDisp 0 ⟨0, 2, none, some
      .indirect⟩), some (.dr 0), none⟩⟩)
  , ([0x30, 0x30, 0x01, 0x54], .err .reserved)
  , ([0x30, 0x30, 0x01, 0x57], .err .reserved)
  , ([0x30, 0x3B, 0x01, 0x90], .ok ⟨4, ⟨2, .MOVE, some (.disp ⟨0, 0, some ⟨false, 0, 0⟩, none⟩), some (.dr 0), none⟩⟩)
  , ([0x30, 0x3B, 0x01, 0x20, 0x00, 0x10], .ok ⟨6, ⟨2, .MOVE, some (.pcDisp 2 ⟨16, 0, some ⟨false, 0, 0⟩, none⟩),
      some (.dr 0), none⟩⟩)
  , ([0x30, 0x30, 0x01, 0x34], .err .outOfSpace)
  , ([0x41, 0x30, 0x01, 0x03], .err .reserved)
  , ([0x30, 0x30, 0x09, 0x18], .ok ⟨4, ⟨2, .MOVE, some (.arDisp 0 ⟨0, 0, some ⟨false, 0, 0⟩, none⟩), some (.dr 0),
      none⟩⟩)
  , ([0x23, 0xB0, 0x01, 0x33, 0x7F, 0xFF, 0xFF, 0xFF, 0x7F, 0xFF, 0xFF, 0xFF, 0x01, 0x33, 0x7F, 0xFF, 0xFF, 0xFF,
      0x7F, 0xFF, 0xFF, 0xFF], .ok ⟨22, ⟨4, .MOVE, some (.arDisp 0 ⟨2147483647, 2147483647, some ⟨false, 0, 0⟩, some
      .preIndexed⟩), some (.arDisp 1 ⟨2147483647, 2147483647, some ⟨false, 0, 0⟩, some .preIndexed⟩), none⟩⟩)
  , ([0x23, 0xB0, 0x01, 0x33, 0x7F, 0xFF, 0xFF, 0xFF, 0x7F, 0xFF, 0xFF, 0xFF, 0x01, 0x33, 0x7F, 0xFF, 0xFF, 0xFF,
      0x7F, 0xFF], .err .outOfSpace) ]
    : List (List Byte × CallResult)).all (fun t => decodeCall t.1 == some t.2) = true := by
  decide +kernel

/-- Source: 95_test_vectors.md section 5. -/
theorem test_vectors_auxiliary : (
  [ ([0x5E, 0x40], .ok ⟨2, ⟨2, .ADDQ, some (.imm8 7), some (.dr 0), none⟩⟩)
  , ([0x50, 0x40], .ok ⟨2, ⟨2, .ADDQ, some (.imm8 8), some (.dr 0), none⟩⟩)
  , ([0xE1, 0x48], .ok ⟨2, ⟨2, .LSL, some (.imm8 8), some (.dr 0), none⟩⟩)
  , ([0x60, 0xFE], .ok ⟨2, ⟨1, .BRA, some (.pcDisp 2 ⟨-2, 0, none, none⟩), none, none⟩⟩)
  , ([0x6E, 0x00, 0x00, 0x10], .ok ⟨4, ⟨2, .BCC, some (.pcDisp 2 ⟨16, 0, none, none⟩), none, some (.condCode .GT)⟩⟩)
  , ([0x5F, 0xC8, 0xFF, 0xFE], .ok ⟨4, ⟨2, .DBCC, some (.dr 0), some (.pcDisp 2 ⟨-2, 0, none, none⟩), some
      (.condCode .LE)⟩⟩)
  , ([0xF2, 0x40, 0x00, 0x3F], .ok ⟨4, ⟨1, .FSCC, some (.dr 0), none, some (.fpCondCode .ST)⟩⟩)
  , ([0xF2, 0x40, 0x00, 0x20], .ok ⟨4, ⟨1, .FSCC, some (.dr 0), none, some (.fpCondCode .F)⟩⟩)
  , ([0xE8, 0xC0, 0x00, 0x00], .ok ⟨4, ⟨0, .BFTST, some (.dr 0), none, some (.bitfield (.static 32) (.static 32))⟩⟩)
  , ([0xE8, 0xC0, 0x08, 0x20], .ok ⟨4, ⟨0, .BFTST, some (.dr 0), none, some (.bitfield (.dynamic 0) (.dynamic 0))⟩⟩)
  , ([0xE8, 0xC0, 0x07, 0xDF], .ok ⟨4, ⟨0, .BFTST, some (.dr 0), none, some (.bitfield (.static 31) (.static 31))⟩⟩)
  , ([0xF2, 0x10, 0x4C, 0x00], .ok ⟨4, ⟨12, .FMOVE, some (.arInd 0), some (.fr 0), some (.fpFormat (.packedStatic
      0))⟩⟩)
  , ([0xF2, 0x10, 0x5C, 0x00], .err .reserved)
  , ([0xF2, 0x10, 0x6C, 0x7F], .ok ⟨4, ⟨12, .FMOVE, some (.fr 0), some (.arInd 0), some (.fpFormat (.packedStatic
      (-1)))⟩⟩)
  , ([0xF2, 0x10, 0x7C, 0x70], .ok ⟨4, ⟨12, .FMOVE, some (.fr 0), some (.arInd 0), some (.fpFormat (.packedDynamic
      7))⟩⟩)
  , ([0x48, 0xA7, 0x80, 0x00], .ok ⟨4, ⟨2, .MOVEM, some (.regList 0x0001), some (.arDec 7), none⟩⟩)
  , ([0x48, 0x97, 0x80, 0x00], .ok ⟨4, ⟨2, .MOVEM, some (.regList 0x8000), some (.arInd 7), none⟩⟩)
  , ([0x4C, 0x9F, 0x00, 0x01], .ok ⟨4, ⟨2, .MOVEM, some (.arInc 7), some (.regList 0x0001), none⟩⟩)
  , ([0xF2, 0x27, 0xE0, 0x01], .ok ⟨4, ⟨10, .FMOVEM, some (.regList 0x0001), some (.arDec 7), none⟩⟩)
  , ([0xF2, 0x1F, 0xD0, 0x80], .ok ⟨4, ⟨10, .FMOVEM, some (.arInc 7), some (.regList 0x0001), none⟩⟩)
  , ([0xF2, 0x27, 0xE8, 0x30], .ok ⟨4, ⟨10, .FMOVEM, some (.dr 3), some (.arDec 7), none⟩⟩) ]
    : List (List Byte × CallResult)).all (fun t => decodeCall t.1 == some t.2) = true := by
  decide +kernel

/-- Source: 95_test_vectors.md section 6. -/
theorem test_vectors_errors : (
  [ ([], .err .outOfSpace)
  , ([0x4E], .err .outOfSpace)
  , ([0x4E, 0x71, 0x00], .ok ⟨2, ⟨0, .NOP, none, none, none⟩⟩)
  , ([0xA0, 0x00], .err .notImplemented)
  , ([0xF0, 0x00, 0x00, 0x00], .err .notImplemented)
  , ([0xF4, 0x00], .err .notImplemented)
  , ([0xF3, 0x80], .err .notImplemented)
  , ([0xF2, 0x00, 0x20, 0x00], .err .notImplemented)
  , ([0xF2, 0x00, 0x00, 0x05], .err .notImplemented)
  , ([0xF2, 0x00], .err .outOfSpace)
  , ([0x4E, 0x7A], .err .outOfSpace)
  , ([0x4E, 0x78], .err .notImplemented)
  , ([0x41, 0x40], .err .notImplemented)
  , ([0x71, 0x00], .err .notImplemented)
  , ([0x0C, 0xFC, 0x00, 0x00, 0x00, 0x00], .err .notImplemented)
  , ([0x0E, 0xFC, 0x00, 0x00, 0x00, 0x00], .err .notImplemented)
  , ([0x4A, 0xFC], .ok ⟨2, ⟨0, .ILLEGAL, none, none, none⟩⟩)
  , ([0x50, 0xFD], .err .badRegister)
  , ([0xF2, 0x7F, 0x00, 0x00], .err .badRegister)
  , ([0xF2, 0x00, 0xA0, 0x00], .err .reserved)
  , ([0x4C, 0x3C, 0x08, 0x00], .err .outOfSpace)
  , ([0x31, 0xFD], .err .badRegister)
  , ([0x31, 0xFC], .err .outOfSpace)
  , ([0x30, 0x3C], .err .outOfSpace)
  , ([0x00, 0xC0], .err .outOfSpace) ]
    : List (List Byte × CallResult)).all (fun t => decodeCall t.1 == some t.2) = true := by
  decide +kernel

end Sys2Proof.Machine
end

/-! What the scan takes (30_encoding.md R42), and the one row that takes FNOP. -/
namespace Sys2Proof
open Sys2Proof.Machine

/-- The scan takes a row of its list, one whose two tests hold (30_encoding.md R42). -/
theorem scan_eq_some {rows : List Row} {w1 w2 : Word} {i : Instr} (h : scan rows w1 w2 = some i) :
    ∃ r ∈ rows, r.matchesFirst w1 = true ∧ r.guardHolds w2 = true ∧ r.build w1 w2 = i := by
  induction rows with
  | nil => cases h
  | cons r rs ih =>
    by_cases taken : (r.matchesFirst w1 && r.guardHolds w2) = true
    · obtain ⟨first, guard⟩ := Bool.and_eq_true_iff.mp taken
      exact ⟨r, List.mem_cons_self, first, guard, by simpa [scan, taken] using h⟩
    · obtain ⟨q, hq, tests⟩ := ih (by simpa [scan, taken] using h)
      exact ⟨q, List.mem_cons_of_mem r hq, tests⟩

/-- Whether an instruction is FNOP. -/
def Instr.isFnop : Instr → Bool
  | .fnop => true
  | _ => false

/-- FNOP has one row, which tests the whole opcode word (49_fpu_control.md R292). -/
theorem group_fnop_row (w1 w2 : Word) : (group w1).all (fun r =>
    !(r.build w1 w2).isFnop || (r.mask == BitVec.allOnes 16 && r.value == 0xF280)) = true := by
  unfold group
  split <;> rfl

/-- FNOP is decoded from its own opcode word alone. -/
theorem opcode_of_decodeWords_fnop {w1 w2 : Word} (h : decodeWords w1 w2 = some .fnop) : w1 = 0xF280 := by
  obtain ⟨r, mem, first, -, build⟩ := scan_eq_some h
  have row := List.all_eq_true.mp (group_fnop_row w1 w2) r mem
  obtain ⟨mask, value⟩ : r.mask = BitVec.allOnes 16 ∧ r.value = 0xF280 := by
    simpa [-BitVec.reduceAllOnes, build, Instr.isFnop] using row
  rw [Row.matchesFirst, mask, value, BitVec.and_allOnes] at first
  exact eq_of_beq first

/-- The scan that takes FNOP peeked at the word FNOP's builder skips. -/
theorem peeksSecond_of_decodeWords_fnop {w1 w2 : Word} (h : decodeWords w1 w2 = some .fnop) :
    peeksSecond w1 = true := by
  rw [opcode_of_decodeWords_fnop h]
  decide

end Sys2Proof

/-! Every step keeps the invariant of the block: the peek and the pull on the cursor, the end of every meaning, and the
end of a step. -/
namespace Sys2Proof.Machine

@[simp] theorem peekWord_pos (k : Nat) (s : State) : (peekWord k s).2.pos = s.pos := by
  unfold peekWord
  split <;> simp

/-- A second peek changes nothing: the error of the first stays (10_state.md R6). -/
theorem peekWord_peekWord (k : Nat) (s : State) : (peekWord k (peekWord k s).2).2 = (peekWord k s).2 := by
  cases h : s.buf.word? (s.pos + 2 * k) with
  | some w => simp only [peekWord_of_some h]
  | none =>
    have h' : (recordError .outOfSpace s).buf.word? ((recordError .outOfSpace s).pos + 2 * k) = none := by simpa using h
    rw [peekWord_of_none h, peekWord_of_none h', recordError_of_some (recordError_err _ _)]

/-- Where the peek at the next word has been made, skipping that word is pulling it. -/
theorem skipWords_eq_pull16 {s : State} (h : (peekWord 0 s).2 = s) : skipWords 1 s = (pull16 s).2 := by
  rw [pull16, h]

@[simp] theorem pull16_pos (s : State) : (pull16 s).2.pos = s.pos + 2 := by simp [pull16]

theorem scanState_of_peeks {w1 : Word} {s : State} (h : peeksSecond w1 = true) :
    scanState w1 s = (peekWord 0 s).2 := by simp [scanState, h]

@[simp] theorem scanState_pos (w1 : Word) (s : State) : (scanState w1 s).pos = s.pos := by
  unfold scanState
  split <;> simp

theorem scanState_advances (w1 : Word) (s : State) : Advances 0 s (scanState w1 s) := by
  unfold scanState
  split
  · exact peekWord_advances 0 s
  · exact Advances.refl s

/-! The meanings that have no shape of their own in Machine/Forms.lean. -/

/-- `Ends.mono` with its bound checked on numerals. -/
theorem Ends.widen {n m : Nat} {s : State} {r : StepResult} (h : Ends n s r) (g : n ≤ m := by decide) : Ends m s r :=
  h.mono g

/-- A builder that chooses between two ends. -/
theorem Ends.ite {n : Nat} {s : State} {p : Prop} [Decidable p] {a b : StepResult} (ha : Ends n s a) (hb : Ends n s b) :
    Ends n s (if p then a else b) := by
  split
  · exact ha
  · exact hb

theorem someExtra {x : Extra} (h : x.inRange = true) : ∀ y, some x = some y → y.inRange = true :=
  fun _ e => Option.some.inj e ▸ h

theorem execMovep_ends (dx : RegNum) (toMem long : Bool) (ay : RegNum) (s : State) :
    Ends 1 s (execMovep dx toMem long ay s) :=
  Ends.after (pullDisp16_advances s)
    (Ends.ite (emit_ends (sizeWL_legal long) noExtra) (emit_ends (sizeWL_legal long) noExtra))

theorem execMoves_ends (ss : BitVec 2) (ea : EaField) (s : State) : Ends 6 s (execMoves ss ea s) :=
  withSize_ends fun _ h => Ends.after (pull16_advances s)
    (Ends.ite (emitToEa_ends (sizeStd_legal h)) (emitEaTo_ends (sizeStd_legal h)))

theorem execMovemStore_ends (long : Bool) (ea : EaField) (s : State) : Ends 6 s (execMovemStore long ea s) :=
  Ends.after (pull16_advances s) (Ends.after (resolveEa_advances ea _ _) (emit_ends (sizeWL_legal long) noExtra))

theorem execBfins_ends (ea : EaField) (s : State) : Ends 6 s (execBfins ea s) :=
  Ends.after (pull16_advances s) (Ends.after (resolveEa_advances ea 0 _)
    (emit_ends (by decide) (someExtra (bfExtra_inRange _))))

theorem execFmoveToEa_ends (ea : EaField) (fmt : BitVec 3) (fpm : RegNum) (k : BitVec 7) (s : State) :
    Ends 6 s (execFmoveToEa ea fmt fpm k s) :=
  Ends.after (pull16_advances s) (Ends.after (resolveEa_advances ea _ _)
    (emit_ends (formatSize_legal _) (someExtra rfl)))

theorem execFmovemToCtl_ends (ea : EaField) (list : BitVec 3) (s : State) :
    Ends 6 s (execFmovemToCtl ea list s) :=
  Ends.after (pull16_advances s) (Ends.ite (raiseError_ends _ _).widen
    (Ends.after (resolveEa_advances ea _ _) (emit_ends (by decide) noExtra)))

theorem execFmovemFromCtl_ends (ea : EaField) (list : BitVec 3) (s : State) :
    Ends 6 s (execFmovemFromCtl ea list s) :=
  Ends.after (pull16_advances s) (Ends.ite (raiseError_ends _ _).widen
    (Ends.after (resolveEa_advances ea _ _) (emit_ends (by decide) noExtra)))

/-- FNOP skips its second word, which the scan has peeked at (49_fpu_control.md R292). -/
theorem execFnop_ends {s : State} (peeked : (peekWord 0 s).2 = s) : Ends 1 s (execFnop s) := by
  rw [execFnop, skipWords_eq_pull16 peeked]
  exact Ends.after (pull16_advances s) (emit_ends (by decide) noExtra)

/-! Every meaning, grouped by the words it reads. -/

/-- Every meaning ends its call within ten words after the opcode word (30_encoding.md R77). FNOP skips a word without
reading it, so it needs the peek that the scan makes before it. -/
theorem exec_ends (i : Instr) (s : State) (peeked : i = .fnop → (peekWord 0 s).2 = s) : Ends 10 s (exec i s) := by
  cases i with
  -- no word is read
  | illegal | bgnd | reset | nop | rte | rts | trapv | rtr | trap _ | unlk _ | moveToUsp _ | moveFromUsp _ | swap _
  | bkpt _ | extW _ | extL _ | extbL _ | rtm _ | exgDD _ _ | exgAA _ _ | exgDA _ _ | moveq _ _ =>
    exact (emit_ends (by decide) noExtra).widen
  | trapcc _ => exact (emit_ends (by decide) (someExtra rfl)).widen
  | cmpm _ _ _ => exact (withSize_ends fun _ h => emit_ends (sizeStd_legal h) noExtra).widen
  | sbcd _ _ _ | abcd _ _ _ => exact (emitPair_ends (by decide)).widen
  | subx _ _ _ _ | addx _ _ _ _ => exact (emitSizedPair_ends _ _ _ _ _ s).widen
  | asrDy _ _ _ _ | aslDy _ _ _ _ | lsrDy _ _ _ _ | lslDy _ _ _ _ | roxrDy _ _ _ _ | roxlDy _ _ _ _ | rorDy _ _ _ _
  | rolDy _ _ _ _ => exact (emitShift_ends _ _ _ _ _ s).widen
  | cas2 _ => exact (raiseError_ends _ s).widen
  -- words alone
  | stop | rtd | movecFrom | movecTo | linkW _ | fmovecr _ _ =>
    exact (Ends.after (pull16_advances s) (emit_ends (by decide) noExtra)).widen
  | linkL _ => exact (Ends.after (pull32_advances s) (emit_ends (by decide) noExtra)).widen
  | trapccW _ | dbcc _ _ | ftrapcc | fbccW _ =>
    exact (Ends.after (pull16_advances s) (emit_ends (by decide) (someExtra rfl))).widen
  | trapccL _ | fbccL _ => exact (Ends.after (pull32_advances s) (emit_ends (by decide) (someExtra rfl))).widen
  | ftrapccW | fdbcc _ =>
    exact (Ends.after (pull16_advances s)
      (Ends.after (pull16_advances _) (emit_ends (by decide) (someExtra rfl)))).widen
  | ftrapccL =>
    exact (Ends.after (pull16_advances s)
      (Ends.after (pull32_advances _) (emit_ends (by decide) (someExtra rfl)))).widen
  | fnop => exact (execFnop_ends (peeked rfl)).widen
  | movep _ _ _ _ => exact (execMovep_ends _ _ _ _ s).widen
  | pack _ _ _ | unpk _ _ _ => exact (emitAdjust_ends _ _ _ _ s).widen
  | oriToCcr | oriToSr | andiToCcr | andiToSr | eoriToCcr | eoriToSr =>
    exact (emitImmToImplied_ends (by decide)).widen
  | bra _ | bsr _ => exact (emitBranch_ends noExtra).widen
  | bcc _ _ => exact (emitBranch_ends (someExtra rfl)).widen
  -- one effective address
  | jsr _ | jmp _ | nbcd _ | pea _ | tas _ | fsave _ | frestore _ | asrEa _ | aslEa _ | lsrEa _ | lslEa _ | roxrEa _
  | roxlEa _ | rorEa _ | rolEa _ => exact (emitEa_ends (by decide) noExtra).widen
  | scc _ _ => exact (emitEa_ends (by decide) (someExtra rfl)).widen
  | negx _ _ | clr _ _ | neg _ _ | not _ _ | tst _ _ => exact (emitSizedEa_ends _ _ _ s).widen
  | moveToCcr _ | moveToSr _ | chkL _ _ | chkW _ _ | lea _ _ | divuW _ _ | divsW _ _ | muluW _ _ | mulsW _ _ =>
    exact (emitEaTo_ends (by decide)).widen
  | suba _ long _ | cmpa _ long _ | adda _ long _ => exact (emitEaTo_ends (sizeWL_legal long)).widen
  | moveFromSr _ | moveFromCcr _ => exact (emitToEa_ends (by decide)).widen
  | cmp _ _ _ => exact (withSize_ends fun _ h => emitEaTo_ends (sizeStd_legal h)).widen
  | eor _ _ _ => exact (withSize_ends fun _ h => emitToEa_ends (sizeStd_legal h)).widen
  | or _ _ _ _ | sub _ _ _ _ | and _ _ _ _ | add _ _ _ _ => exact (emitDnEa_ends _ _ _ _ _ s).widen
  | addq _ _ _ | subq _ _ _ => exact (emitQuick_ends _ _ _ _ s).widen
  | btstDn _ _ | bchgDn _ _ | bclrDn _ _ | bsetDn _ _ => exact (emitBitDn_ends _ _ _ s).widen
  | moveaL _ _ => exact (emitMovea_ends 0b10 _ _ s).widen
  | moveaW _ _ => exact (emitMovea_ends 0b11 _ _ s).widen
  -- a word or an immediate, then an effective address
  | btstImm _ | bchgImm _ | bclrImm _ | bsetImm _ => exact (emitBitImm_ends _ _ s).widen
  | callm _ => exact (emitByteToEa_ends (by decide)).widen
  | cmp2 _ _ _ | chk2 _ _ _ => exact (emitBounds_ends _ _ _ _ s).widen
  | casB _ => exact (emitCas_ends 0b01 _ s).widen
  | casW _ => exact (emitCas_ends 0b10 _ s).widen
  | casL _ => exact (emitCas_ends 0b11 _ s).widen
  | ori _ _ | andi _ _ | subi _ _ | addi _ _ | eori _ _ | cmpi _ _ => exact (emitImmToEa_ends _ _ _ s).widen
  | moves _ _ => exact (execMoves_ends _ _ s).widen
  | movemStore _ _ => exact (execMovemStore_ends _ _ s).widen
  | movemLoad long _ => exact (Ends.after (pull16_advances s) (emitEaTo_ends (sizeWL_legal long))).widen
  | muluL _ _ _ _ | mulsL _ _ _ _ => exact (emitMulL_ends _ _ _ _ _ s).widen
  | divuL64 _ _ _ | divsL64 _ _ _ => exact (emitDivL64_ends _ _ _ _ s).widen
  | divuL32 _ _ _ | divsL32 _ _ _ => exact (emitDivL32_ends _ _ _ _ _ s).widen
  | bftst _ | bfchg _ | bfclr _ | bfset _ => exact (emitBf_ends _ _ s).widen
  | bfextu _ | bfexts _ | bfffo _ => exact (emitBfToDn_ends _ _ s).widen
  | bfins _ => exact (execBfins_ends _ s).widen
  | fscc _ => exact (Ends.after (pull16_advances s) (emitEa_ends (by decide) (someExtra rfl))).widen
  -- two effective addresses
  | moveB _ _ => exact emitMove_ends 0b01 _ _ s
  | moveL _ _ => exact emitMove_ends 0b10 _ _ s
  | moveW _ _ => exact emitMove_ends 0b11 _ _ s
  -- the FPU operations and moves
  | fmove _ _ _ _ | fint _ _ _ _ | fsinh _ _ _ _ | fintrz _ _ _ _ | fsqrt _ _ _ _ | flognp1 _ _ _ _ | fetoxm1 _ _ _ _
  | ftanh _ _ _ _ | fatan _ _ _ _ | fasin _ _ _ _ | fatanh _ _ _ _ | fsin _ _ _ _ | ftan _ _ _ _ | fetox _ _ _ _
  | ftwotox _ _ _ _ | ftentox _ _ _ _ | flogn _ _ _ _ | flog10 _ _ _ _ | flog2 _ _ _ _ | fabs _ _ _ _ | fcosh _ _ _ _
  | fneg _ _ _ _ | facos _ _ _ _ | fcos _ _ _ _ | fgetexp _ _ _ _ | fgetman _ _ _ _ | fdiv _ _ _ _ | fmod _ _ _ _
  | fadd _ _ _ _ | fmul _ _ _ _ | fsgldiv _ _ _ _ | frem _ _ _ _ | fscale _ _ _ _ | fsglmul _ _ _ _ | fsub _ _ _ _
  | fsincos _ _ _ _ _ | fcmp _ _ _ _ | ftst _ _ _ | fsmove _ _ _ _ | fssqrt _ _ _ _ | fdmove _ _ _ _ | fdsqrt _ _ _ _
  | fsabs _ _ _ _ | fsneg _ _ _ _ | fdabs _ _ _ _ | fdneg _ _ _ _ | fsdiv _ _ _ _ | fsadd _ _ _ _ | fsmul _ _ _ _
  | fddiv _ _ _ _ | fdadd _ _ _ _ | fdmul _ _ _ _ | fssub _ _ _ _ | fdsub _ _ _ _ =>
    exact (emitFpGeneral_ends _ _ _ _ _ s).widen
  | fmoveToEa _ _ _ _ => exact (execFmoveToEa_ends _ _ _ _ s).widen
  | fmoveToFpcr _ | fmoveToFpsr _ | fmoveToFpiar _ => exact (emitToCtl_ends _ _ s).widen
  | fmoveFromFpcr _ | fmoveFromFpsr _ | fmoveFromFpiar _ => exact (emitFromCtl_ends _ _ s).widen
  | fmovemToCtl _ _ => exact (execFmovemToCtl_ends _ _ s).widen
  | fmovemFromCtl _ _ => exact (execFmovemFromCtl_ends _ _ s).widen
  | fmovemToFp _ _ _ => exact (Ends.after (pull16_advances s) (emitEaTo_ends (by decide))).widen
  | fmovemFromFp _ _ _ => exact (Ends.after (pull16_advances s) (emitToEa_ends (by decide))).widen

/-! The invariant. -/

theorem State.inv_iff {s : State} :
    s.inv = true ↔ s.buf.wf = true ∧ s.pos % 2 = 0 ∧ s.resultFits = true := by
  simp [State.inv, and_assoc]

theorem resultFits_err {s : State} {k : ErrorKind} (e : s.err = some k) :
    { s with result := some (.err k) }.resultFits = true := by
  simp [State.resultFits, e]

theorem resultFits_ok {s : State} {ins : Instruction} (e : s.err = none) (even : s.pos % 2 = 0) (lower : 2 ≤ s.pos)
    (inside : s.pos ≤ s.len) (upper : s.pos ≤ Config.maxBytes) (size : ins.size ∈ legalSizes)
    (extra : ∀ x, ins.extra = some x → x.inRange = true) :
    { s with result := some (.ok ⟨s.pos, ins⟩) }.resultFits = true := by
  have inside' : s.pos ≤ s.buf.length := inside
  cases hx : ins.extra with
  | none => simp [State.resultFits, State.len, e, even, lower, inside', upper, size, hx]
  | some x => simp [State.resultFits, State.len, e, even, lower, inside', upper, size, hx, extra x hx]

/-- A builder that starts inside the buffer at an even position, with room for its words below the longest instruction,
ends in a state that meets the invariant. -/
theorem Ends.inv {n : Nat} {s : State} {r : StepResult} (h : Ends n s r) (wf : s.buf.wf = true)
    (even : s.pos % 2 = 0) (lower : 2 ≤ s.pos) (inside : s.err = none → s.pos ≤ s.len)
    (upper : s.pos + 2 * n ≤ Config.maxBytes) :
    ∃ t, r = .next t ∧ t.inv = true ∧ t.buf = s.buf ∧ t.result.isSome = true := by
  obtain ⟨t, c, adv, rfl, onErr, onOk⟩ := h
  obtain ⟨k, hk, moved⟩ := adv.pos
  have even' : t.pos % 2 = 0 := by omega
  have fits : { t with result := some c }.resultFits = true := by
    obtain e | ⟨k, e⟩ := Option.eq_none_or_eq_some t.err
    · obtain ⟨ins, rfl, size, extra⟩ := onOk e
      exact resultFits_ok e even' (by omega) (adv.within e wf (inside (adv.err_none e))) (by omega) size extra
    · rw [onErr k e]
      exact resultFits_err e
  have wf' : t.buf.wf = true := by rwa [adv.buf]
  exact ⟨{ t with result := some c }, rfl, State.inv_iff.mpr ⟨wf', even', fits⟩, adv.buf, rfl⟩

/-! A step. -/

/-- All that a step does: from a fresh cursor the opcode word is pulled and the scan may peek, and from there a builder
or the dispatcher's refusal ends the call within ten words (30_encoding.md R42, R77). -/
theorem step_ends (s : State) : ∃ t, Advances 1 (freshCursor s) t ∧ t.pos = 2 ∧ Ends 10 t (step s) := by
  have scanned : Advances 1 (freshCursor s) (scanState (fetchOpcode s).1 (fetchOpcode s).2) :=
    (pull16_advances _).trans (scanState_advances _ _)
  refine ⟨_, scanned, by simp [fetchOpcode], ?_⟩
  rw [step_eq, decodeStep]
  split
  next i taken =>
    refine exec_ends i _ fun isFnop => ?_
    rw [scanState_of_peeks (peeksSecond_of_decodeWords_fnop (isFnop ▸ taken))]
    exact peekWord_peekWord 0 _
  next => exact (raiseError_ends .notImplemented _).widen

/-- Settles O56: the step's cursor reads at most eleven words from offset 0, and its end fits the cursor. -/
theorem stepKeepsTheInvariant : Obligations.StepKeepsTheInvariant := by
  intro s inv
  obtain ⟨wf, -, -⟩ := State.inv_iff.mp inv
  obtain ⟨t, adv, pos, ends⟩ := step_ends s
  have wf' : t.buf.wf = true := by simpa [adv.buf] using wf
  have inside : t.err = none → t.pos ≤ t.len := fun e => adv.within e wf (Nat.zero_le _)
  have upper : t.pos + 2 * 10 ≤ Config.maxBytes := by rw [pos]; decide
  obtain ⟨u, next, keeps, buf, result⟩ := ends.inv wf' (by omega) (by omega) inside upper
  exact ⟨u, next, keeps, buf.trans adv.buf, result⟩

/-! The two facts of tier 1. -/

/-- Settles O3, by the two equations of `recordError`. -/
theorem firstErrorStays : Obligations.FirstErrorStays :=
  fun _ _ => ⟨recordError_of_none, fun _ => recordError_of_some⟩

/-- Settles O20: the tables of R69 and R70 over their eight codes, the k-factor field free. -/
theorem floatFormats : Obligations.FloatFormats :=
  ⟨by decide, fun _ => rfl, fun _ _ => rfl⟩

end Sys2Proof.Machine

/-! The buffer and the end of a call (20_memory.md): the peek and the pulls of the cursor, and what every meaning
answers. -/
namespace Sys2Proof.Machine

/-! The cursor's reads. -/

/-- In a canonical buffer every offset below `L` holds a byte (20_memory.md R24). -/
theorem Memory.exists_byte?_of_wf {m : Memory} (h : m.wf = true) {off : Nat} (inside : off < m.length) :
    ∃ b, m.byte? off = some b := by
  rw [← Memory.bytes_length] at inside
  exact ⟨_, (Memory.byte?_of_wf h off).trans (List.getElem?_eq_getElem inside)⟩

/-- The word at an offset is its two bytes, the high half first (20_memory.md R26). -/
theorem Memory.word?_of_byte? {m : Memory} {off : Nat} {hi lo : Byte} (high : m.byte? off = some hi)
    (low : m.byte? (off + 1) = some lo) : m.word? off = some (hi ++ lo) := by
  simp [Memory.word?, high, low]

/-- Settles O4: the two bytes are there where the word fits, and no word is there where it does not. -/
theorem peekReadsTheBigEndianWord : Obligations.PeekReadsTheBigEndianWord := by
  intro k s wf
  refine ⟨fun fits => ?_, fun past => peekWord_of_none ?_⟩
  · obtain ⟨hi, high⟩ := Memory.exists_byte?_of_wf wf (off := s.pos + 2 * k) (by rw [State.len] at fits; omega)
    obtain ⟨lo, low⟩ := Memory.exists_byte?_of_wf wf (off := s.pos + 2 * k + 1) (by rw [State.len] at fits; omega)
    exact ⟨hi, lo, high, low, peekWord_of_some (Memory.word?_of_byte? high low)⟩
  · rw [← Option.isNone_iff_eq_none, ← Option.not_isSome, Memory.word?_isSome_of_wf wf]
    simpa [State.len] using past

@[simp] theorem pull16_buf (s : State) : (pull16 s).2.buf = s.buf := (pull16_advances s).buf

@[simp] theorem pull32_buf (s : State) : (pull32 s).2.buf = s.buf := (pull32_advances s).buf

@[simp] theorem pull32_pos (s : State) : (pull32 s).2.pos = s.pos + 4 := by simp [pull32]

/-- Settles O5: the two pulls by their definitions, the position and the buffer by their lemmas. -/
theorem pullConsumes : Obligations.PullConsumes :=
  fun s => ⟨rfl, pull16_pos s, pull16_buf s, rfl, pull32_pos s, pull32_buf s, fun _ => rfl⟩

/-! The end of every meaning. -/

/-- What a call that has ended leaves, seen from the state its builder started in: the buffer is the same, the position
moved on by whole words, and the result is the recorded error or an instruction as long as the position (30_encoding.md
R44). -/
structure CallEnded (s t : State) : Prop where
  buf : t.buf = s.buf
  pos : ∃ k, t.pos = s.pos + 2 * k
  err : ∀ k, t.err = some k → t.result = some (.err k)
  ok : t.err = none → ∃ ins, t.result = some (.ok ⟨t.pos, ins⟩)

theorem Ends.callEnded {n : Nat} {s : State} {r : StepResult} (h : Ends n s r) : ∃ t, r = .next t ∧ CallEnded s t := by
  obtain ⟨t, c, adv, rfl, onErr, onOk⟩ := h
  obtain ⟨k, -, moved⟩ := adv.pos
  refine ⟨_, rfl, adv.buf, ⟨k, moved⟩, fun k e => congrArg some (onErr k e), fun e => ?_⟩
  obtain ⟨ins, rfl, -⟩ := onOk e
  exact ⟨ins, rfl⟩

theorem callResult_of_some {ins : Instruction} {s : State} {k : ErrorKind} (h : s.err = some k) :
    callResult ins s = .err k := by simp [callResult, h]

theorem callResult_of_none {ins : Instruction} {s : State} (h : s.err = none) :
    callResult ins s = .ok ⟨s.pos, ins⟩ := by simp [callResult, h]

/-- FNOP skips a word without reading it, so its position may pass the end of the buffer with no error recorded
(49_fpu_control.md R292). -/
theorem execFnop_callEnded (s : State) : ∃ t, execFnop s = .next t ∧ CallEnded s t :=
  ⟨_, rfl, rfl, ⟨1, rfl⟩, fun _ e => congrArg some (callResult_of_some e),
    fun e => ⟨_, congrArg some (callResult_of_none e)⟩⟩

theorem exec_callEnded (i : Instr) (s : State) : ∃ t, exec i s = .next t ∧ CallEnded s t := by
  by_cases isFnop : i = .fnop
  · rw [isFnop]
    exact execFnop_callEnded s
  · exact (exec_ends i s (absurd · isFnop)).callEnded

/-- Settles O46: FNOP apart, which skips its word unread, every meaning is a builder that `exec_ends` speaks of. -/
theorem everyMeaningEndsTheCall : Obligations.EveryMeaningEndsTheCall := by
  intro i s
  obtain ⟨t, next, ended⟩ := exec_callEnded i s
  exact ⟨t, next, ended.buf, fun _ => by rw [ended.buf], ended.pos, ended.err, ended.ok⟩

end Sys2Proof.Machine

/-! A call depends on the bytes it consumed alone (20_memory.md R25): every builder, then the dispatcher, answers the
same on every buffer that agrees with its own below the position it ends at. -/
namespace Sys2Proof.Machine

/-! Two buffers with the same bytes below an offset. -/

/-- The two buffers hold the same bytes below the offset `n`. -/
def Memory.AgreeBelow (n : Nat) (m m' : Memory) : Prop := ∀ off < n, m'.byte? off = m.byte? off

/-- The same cursor over another buffer. -/
def State.withBuf (s : State) (m : Memory) : State := { s with buf := m }

@[simp] theorem State.withBuf_buf (s : State) (m : Memory) : (s.withBuf m).buf = m := rfl
@[simp] theorem State.withBuf_pos (s : State) (m : Memory) : (s.withBuf m).pos = s.pos := rfl

/-- A word that ends below the offset is the same in both buffers. -/
theorem Memory.AgreeBelow.word? {n : Nat} {m m' : Memory} (h : m.AgreeBelow n m') {off : Nat} (fits : off + 2 ≤ n) :
    m'.word? off = m.word? off := by
  rw [Memory.word?, Memory.word?, h off (by omega), h (off + 1) (by omega)]

/-! Builders and readers that depend on what they consume alone. -/

/-- The builder `k`, wherever it ends its call with no error, had none before, consumed at least `n` words, and answers
the same on every buffer that agrees with its own below the position it ends at. -/
def Confined (n : Nat) (k : State → StepResult) : Prop :=
  ∀ s t, k s = .next t → t.err = none → s.err = none ∧ s.pos + 2 * n ≤ t.pos ∧
    ∀ m, s.buf.AgreeBelow t.pos m → k (s.withBuf m) = .next (t.withBuf m)

/-- A reader `f`, then what `k` makes of the value read, from the cursor after it. -/
def reading {α β : Type} (f : State → α × State) (k : α → State → β) (s : State) : β := k (f s).1 (f s).2

/-- The reader `f` consumes at least `n` words and may stand before every confined builder. -/
def ConfinedRead {α : Type} (n : Nat) (f : State → α × State) : Prop :=
  ∀ (j : Nat) (k : α → State → StepResult), (∀ a, Confined j (k a)) → Confined (n + j) (reading f k)

theorem Confined.mono {n j : Nat} {k : State → StepResult} (h : Confined n k) (le : j ≤ n) : Confined j k := by
  intro s t next e
  obtain ⟨e', moved, same⟩ := h s t next e
  exact ⟨e', by omega, same⟩

/-- The builder, with no bound on the words it consumes. -/
theorem Confined.loosen {n : Nat} {k : State → StepResult} (h : Confined n k) : Confined 0 k := h.mono (Nat.zero_le n)

theorem Confined.ite {n : Nat} {p : Prop} [Decidable p] {k l : State → StepResult} (hk : Confined n k)
    (hl : Confined n l) : Confined n (fun s => if p then k s else l s) := by
  split
  · exact hk
  · exact hl

theorem raiseError_err_ne_none {k : ErrorKind} {s t : State} (next : raiseError k s = .next t) : t.err ≠ none := by
  rw [raiseError_eq] at next
  cases next
  exact Option.some_ne_none _

/-- A raise never ends a call without an error, so it is confined. -/
theorem raiseError_confined (n : Nat) (k : ErrorKind) : Confined n (raiseError k) :=
  fun _ _ next e => absurd e (raiseError_err_ne_none next)

theorem withSize_confined {n : Nat} {size : Option Nat} {k : Nat → State → StepResult} (h : ∀ m, Confined n (k m)) :
    Confined n (fun s => withSize size s fun m => k m s) := by
  cases size with
  | none => exact raiseError_confined n .notImplemented
  | some m => exact h m

theorem emit_confined (op : Operation) (size : Nat) (o0 o1 : Option Operand) (x : Option Extra) :
    Confined 0 (emit op size o0 o1 x) := by
  intro s t next e
  cases next
  exact ⟨e, le_rfl, fun _ _ => rfl⟩

/-! Readers. -/

theorem pull16_confined : ConfinedRead 1 pull16 := by
  intro j k hk s t next e
  obtain ⟨e', moved, same⟩ := hk _ _ _ next e
  cases h : s.buf.word? s.pos with
  | none => simp [pull16_of_none h] at e'
  | some w =>
    simp only [reading, pull16_of_some h, skipWords_err, skipWords_pos, skipWords_buf] at e' moved same ⊢
    refine ⟨e', by omega, fun m agree => ?_⟩
    have h' : (s.withBuf m).buf.word? (s.withBuf m).pos = some w := by
      simpa [h] using agree.word? (off := s.pos) (by omega)
    rw [pull16_of_some h']
    exact same m agree

/-- A value that is read from no word. -/
theorem pure_confined {α : Type} (a : α) : ConfinedRead 0 (fun s => (a, s)) := by
  intro j k hk
  rw [Nat.zero_add]
  exact hk a

/-- A recorded error is the end of every confined builder. -/
theorem recordError_confined {α : Type} {n : Nat} (a : α) (e : ErrorKind) :
    ConfinedRead n (fun s => (a, recordError e s)) := by
  intro j k hk s t next err
  obtain ⟨e', -⟩ := hk _ _ _ next err
  simp at e'

namespace ConfinedRead

variable {α β : Type} {n m : Nat} {f g : State → α × State}

theorem mono (h : ConfinedRead n f) (le : m ≤ n) : ConfinedRead m f :=
  fun j k hk => (h j k hk).mono (Nat.add_le_add_right le j)

theorem loosen (h : ConfinedRead n f) : ConfinedRead 0 f := h.mono (Nat.zero_le n)

theorem ite {p : Prop} [Decidable p] (hf : ConfinedRead n f) (hg : ConfinedRead n g) :
    ConfinedRead n (fun s => if p then f s else g s) := by
  split
  · exact hf
  · exact hg

theorem bind {g : α → State → β × State} (hf : ConfinedRead n f) (hg : ∀ a, ConfinedRead m (g a)) :
    ConfinedRead (n + m) (reading f g) := by
  intro j k hk
  rw [Nat.add_assoc]
  exact hf (m + j) (fun a => reading (g a) k) fun a => hg a j k hk

theorem map (hf : ConfinedRead n f) (v : α → β) : ConfinedRead n (fun s => (v (f s).1, (f s).2)) :=
  hf.bind fun a => pure_confined (v a)

/-- The value may name the position the reader started at. -/
theorem mapPos (hf : ConfinedRead n f) (v : Nat → α → β) :
    ConfinedRead n (fun s => (v s.pos (f s).1, (f s).2)) :=
  fun j k hk s => hf.map (v s.pos) j k hk s

/-- Two readers in a row. -/
theorem pair {g : State → β × State} (hf : ConfinedRead n f) (hg : ConfinedRead m g) :
    ConfinedRead (n + m) (fun s => (((f s).1, (g (f s).2).1), (g (f s).2).2)) :=
  hf.bind fun a => hg.map (Prod.mk a)

/-- A reader, then a builder that does not use the value. -/
theorem before {k : State → StepResult} (hf : ConfinedRead n f) (hk : Confined m k) :
    Confined (n + m) (fun s => k (f s).2) :=
  hf m (fun _ => k) fun _ => hk

/-- A reader, then the end of the call with the instruction it makes of the value. -/
theorem answers (hf : ConfinedRead n f) (ins : α → Instruction) :
    Confined n (fun s => emit (ins (f s).1).operation (ins (f s).1).size (ins (f s).1).op0 (ins (f s).1).op1
      (ins (f s).1).extra (f s).2) :=
  hf 0 (fun a => emit (ins a).operation (ins a).size (ins a).op0 (ins a).op1 (ins a).extra)
    fun _ => emit_confined _ _ _ _ _

end ConfinedRead

theorem pull32_confined : ConfinedRead 2 pull32 := (pull16_confined.pair pull16_confined).map fun p => p.1 ++ p.2

theorem pullDisp16_confined : ConfinedRead 1 pullDisp16 := pull16_confined.map (·.signExtend 32)

/-- An immediate takes a word, unless its size ends the call. -/
theorem readImm_confined (size : Nat) : ConfinedRead 1 (readImm size) :=
  .ite (pull16_confined.map fun w => Operand.imm8 (field w 0 8)) <|
    .ite (pull16_confined.map Operand.imm16) <|
    .ite ((pull32_confined.map Operand.imm32).mono one_le_two) (recordError_confined _ .badSize)

theorem pullSized_confined (code : BitVec 2) : ConfinedRead 0 (pullSized code) :=
  .ite pullDisp16_confined.loosen (.ite pull32_confined.loosen (pure_confined 0))

theorem pullBase_confined (ext : Word) : ConfinedRead 0 (pullBase ext) :=
  .ite (recordError_confined 0 .reserved) (pullSized_confined _)

theorem pullOuter_confined (ext : Word) : ConfinedRead 0 (pullOuter ext) := by
  unfold pullOuter
  cases indirectionOf (bitOf ext 6) (field ext 0 3) with
  | none => exact recordError_confined _ .reserved
  | some k => exact (pullSized_confined k.2).map (Prod.mk k.1)

theorem fullDisp_confined (ext : Word) : ConfinedRead 0 (fullDisp ext) :=
  ((pullBase_confined ext).pair (pullOuter_confined ext)).map fun p =>
    Displacement.mk p.1 p.2.2 (if bitOf ext 6 then none else some (indexerOf ext)) p.2.1

theorem extWord_confined : ConfinedRead 0 extWord := by
  show ConfinedRead 0 (reading pull16 fun ext s =>
    if bitOf ext 8 then ((bitOf ext 7, (fullDisp ext s).1), (fullDisp ext s).2) else ((false, briefDisp ext), s))
  exact (pull16_confined.bind fun ext =>
    .ite ((fullDisp_confined ext).map (Prod.mk (bitOf ext 7))) (pure_confined _)).loosen

theorem branchDisp_confined (disp : Byte) : ConfinedRead 0 (branchDisp disp) :=
  .ite (pullDisp16_confined.map (Prod.mk 2)).loosen <|
    .ite (pull32_confined.map (Prod.mk 4)).loosen (pure_confined _)

theorem resolveMode7_confined (reg : RegNum) (size : Nat) : ConfinedRead 0 (resolveMode7 reg size) :=
  .ite (pull16_confined.map Operand.abs16).loosen <|
    .ite (pull32_confined.map Operand.abs32).loosen <|
    .ite (pullDisp16_confined.mapPos fun pos d => Operand.pcDisp pos (plainDisp d)).loosen <|
    .ite (extWord_confined.mapPos fun pos x => if x.1 then Operand.disp x.2 else Operand.pcDisp pos x.2) <|
    .ite (readImm_confined size).loosen (recordError_confined _ .badRegister)

theorem resolveEa_confined (ea : EaField) (size : Nat) : ConfinedRead 0 (resolveEa ea size) :=
  .ite (pure_confined _) <| .ite (pure_confined _) <| .ite (pure_confined _) <| .ite (pure_confined _) <|
    .ite (pure_confined _) <|
    .ite (pullDisp16_confined.map fun d => Operand.arDisp ea.reg (plainDisp d)).loosen <|
    .ite (extWord_confined.map fun x => if x.1 then Operand.disp x.2 else Operand.arDisp ea.reg x.2) <|
    resolveMode7_confined ea.reg size

end Sys2Proof.Machine

/-! Every builder's shape is confined (Machine/Forms.lean), then every meaning. -/
namespace Sys2Proof.Machine

theorem emitEa_confined (op : Operation) (size hint : Nat) (ea : EaField) (x : Option Extra) :
    Confined 0 (emitEa op size hint ea x) :=
  (resolveEa_confined ea hint).answers fun o => ⟨size, op, some o, none, x⟩

theorem emitEaTo_confined (op : Operation) (size : Nat) (ea : EaField) (o : Operand) :
    Confined 0 (emitEaTo op size ea o) :=
  (resolveEa_confined ea size).answers fun src => ⟨size, op, some src, some o, none⟩

theorem emitToEa_confined (op : Operation) (size : Nat) (o : Operand) (ea : EaField) :
    Confined 0 (emitToEa op size o ea) :=
  (resolveEa_confined ea size).answers fun dst => ⟨size, op, some o, some dst, none⟩

theorem emitSizedEa_confined (op : Operation) (ss : BitVec 2) (ea : EaField) : Confined 0 (emitSizedEa op ss ea) :=
  withSize_confined fun size => emitEa_confined op size size ea none

theorem emitDnEa_confined (op : Operation) (dn : RegNum) (toEa : Bool) (ss : BitVec 2) (ea : EaField) :
    Confined 0 (emitDnEa op dn toEa ss ea) :=
  withSize_confined fun size => .ite (emitToEa_confined op size (.dr dn) ea) (emitEaTo_confined op size ea (.dr dn))

theorem emitImmToImplied_confined (op : Operation) (size : Nat) : Confined 1 (emitImmToImplied op size) :=
  (readImm_confined size).answers fun imm => ⟨size, op, some imm, some .implied, none⟩

theorem emitImmToEa_confined (op : Operation) (ss : BitVec 2) (ea : EaField) : Confined 1 (emitImmToEa op ss ea) :=
  withSize_confined fun size =>
    ((readImm_confined size).pair (resolveEa_confined ea size)).answers fun p => ⟨size, op, some p.1, some p.2, none⟩

theorem emitBitDn_confined (op : Operation) (dn : RegNum) (ea : EaField) : Confined 0 (emitBitDn op dn ea) :=
  emitToEa_confined op (bitOpSize ea) (.dr dn) ea

theorem emitByteToEa_confined (op : Operation) (size hint : Nat) (ea : EaField) :
    Confined 1 (emitByteToEa op size hint ea) :=
  (pull16_confined.pair (resolveEa_confined ea hint)).answers fun p =>
    ⟨size, op, some (.imm8 (field p.1 0 8)), some p.2, none⟩

theorem emitBitImm_confined (op : Operation) (ea : EaField) : Confined 1 (emitBitImm op ea) :=
  emitByteToEa_confined op (bitOpSize ea) (bitOpSize ea) ea

theorem emitBounds_confined (op : Operation) (ss : BitVec 2) (ea : EaField) (rn : RegField) :
    Confined 1 (emitBounds op ss ea rn) :=
  withSize_confined fun size => pull16_confined.before (emitEaTo_confined op size ea (regOperand rn))

theorem emitCas_confined (code : BitVec 2) (ea : EaField) : Confined 1 (emitCas code ea) :=
  withSize_confined fun size => (pull16_confined.pair (resolveEa_confined ea size)).answers fun p =>
    ⟨size, .CAS, some (.dPair (field p.1 0 3) (field p.1 6 3)), some p.2, none⟩

theorem emitMulL_confined (op : Operation) (ea : EaField) (dl : RegNum) (is64 : Bool) (dh : RegNum) :
    Confined 1 (emitMulL op ea dl is64 dh) :=
  pull16_confined.before (emitEaTo_confined op 4 ea _)

theorem emitDivL64_confined (op : Operation) (ea : EaField) (dq dr : RegNum) : Confined 1 (emitDivL64 op ea dq dr) :=
  pull16_confined.before (emitEaTo_confined op 4 ea _)

theorem emitDivL32_confined (opQ opR : Operation) (ea : EaField) (dq dr : RegNum) :
    Confined 1 (emitDivL32 opQ opR ea dq dr) :=
  .ite (pull16_confined.before (emitEaTo_confined opQ 4 ea _)) (pull16_confined.before (emitEaTo_confined opR 4 ea _))

theorem emitMove_confined (code : BitVec 2) (src dst : EaField) : Confined 0 (emitMove code src dst) :=
  withSize_confined fun size => ((resolveEa_confined src size).pair (resolveEa_confined dst size)).answers fun p =>
    ⟨size, .MOVE, some p.1, some p.2, none⟩

theorem emitMovea_confined (code : BitVec 2) (an : RegNum) (ea : EaField) : Confined 0 (emitMovea code an ea) :=
  withSize_confined fun size => emitEaTo_confined .MOVEA size ea (.ar an)

theorem emitQuick_confined (op : Operation) (data : BitVec 3) (ss : BitVec 2) (ea : EaField) :
    Confined 0 (emitQuick op data ss ea) :=
  withSize_confined fun size => emitToEa_confined op size (.imm8 (quick data)) ea

theorem emitBranch_confined (op : Operation) (disp : Byte) (x : Option Extra) : Confined 0 (emitBranch op disp x) :=
  (branchDisp_confined disp).answers fun d => ⟨d.1, op, some (branchTarget 2 d.2), none, x⟩

theorem emitSizedPair_confined (op : Operation) (rx : RegNum) (ss : BitVec 2) (mem : Bool) (ry : RegNum) :
    Confined 0 (emitSizedPair op rx ss mem ry) :=
  withSize_confined fun size => emit_confined op size _ _ none

theorem emitAdjust_confined (op : Operation) (rx : RegNum) (mem : Bool) (ry : RegNum) :
    Confined 1 (emitAdjust op rx mem ry) :=
  pull16_confined.answers fun adj => ⟨0, op, some (rrOperand mem ry), some (rrOperand mem rx), some (.packAdjust adj)⟩

theorem emitShift_confined (op : Operation) (cnt : BitVec 3) (ss : BitVec 2) (ir : Bool) (dy : RegNum) :
    Confined 0 (emitShift op cnt ss ir dy) :=
  withSize_confined fun size => emit_confined op size _ _ none

theorem emitBf_confined (op : Operation) (ea : EaField) : Confined 1 (emitBf op ea) :=
  (pull16_confined.pair (resolveEa_confined ea 0)).answers fun p => ⟨0, op, some p.2, none, some (bfExtra p.1)⟩

theorem emitBfToDn_confined (op : Operation) (ea : EaField) : Confined 1 (emitBfToDn op ea) :=
  (pull16_confined.pair (resolveEa_confined ea 0)).answers fun p =>
    ⟨0, op, some p.2, some (.dr (field p.1 12 3)), some (bfExtra p.1)⟩

/-- After its command word an FPU general operation reads a memory source, if it has one. -/
theorem emitFpGeneral_confined (op : Operation) (ea : EaField) (rm : Bool) (src : BitVec 3) (dst : Option Operand) :
    Confined 1 (emitFpGeneral op ea rm src dst) := by
  cases rm with
  | false => exact pull16_confined.before (emit_confined op 10 _ dst none)
  | true =>
    unfold emitFpGeneral
    cases fmtIn src with
    | none => exact pull16_confined.before (raiseError_confined 0 .reserved)
    | some fmt =>
      exact pull16_confined.before ((resolveEa_confined ea (formatSize fmt)).answers fun o =>
        ⟨formatSize fmt, op, some o, dst, some (.fpFormat fmt)⟩)

theorem emitToCtl_confined (list : BitVec 3) (ea : EaField) : Confined 1 (emitToCtl list ea) :=
  pull16_confined.before (emitEaTo_confined .FMOVE 4 ea _)

theorem emitFromCtl_confined (list : BitVec 3) (ea : EaField) : Confined 1 (emitFromCtl list ea) :=
  pull16_confined.before (emitToEa_confined .FMOVE 4 _ ea)

/-! The meanings that have no shape of their own. -/

theorem execMovep_confined (dx : RegNum) (toMem long : Bool) (ay : RegNum) :
    Confined 1 (execMovep dx toMem long ay) :=
  .ite
    (pullDisp16_confined.answers fun d =>
      ⟨sizeWL long, .MOVEP, some (.dr dx), some (.arDisp ay (plainDisp d)), none⟩)
    (pullDisp16_confined.answers fun d =>
      ⟨sizeWL long, .MOVEP, some (.arDisp ay (plainDisp d)), some (.dr dx), none⟩)

/-- The extension word of MOVES names its direction. -/
theorem execMoves_confined (ss : BitVec 2) (ea : EaField) : Confined 1 (execMoves ss ea) :=
  withSize_confined fun size => by
    show Confined 1 (reading pull16 fun w2 s =>
      if bitOf w2 11 then emitToEa .MOVES size (regOperand (regOf w2 12)) ea s
      else emitEaTo .MOVES size ea (regOperand (regOf w2 12)) s)
    exact pull16_confined 0 _ fun w2 => .ite (emitToEa_confined _ _ _ _) (emitEaTo_confined _ _ _ _)

theorem execMovemStore_confined (long : Bool) (ea : EaField) : Confined 1 (execMovemStore long ea) :=
  (pull16_confined.pair (resolveEa_confined ea (sizeWL long))).answers fun p =>
    ⟨sizeWL long, .MOVEM, some (.regList (if ea.mode = 4 then reverse16 p.1 else p.1)), some p.2, none⟩

theorem execMovemLoad_confined (long : Bool) (ea : EaField) : Confined 1 (execMovemLoad long ea) :=
  (pull16_confined.pair (resolveEa_confined ea (sizeWL long))).answers fun p =>
    ⟨sizeWL long, .MOVEM, some p.2, some (.regList p.1), none⟩

theorem execBfins_confined (ea : EaField) : Confined 1 (execBfins ea) :=
  (pull16_confined.pair (resolveEa_confined ea 0)).answers fun p =>
    ⟨0, .BFINS, some (.dr (field p.1 12 3)), some p.2, some (bfExtra p.1)⟩

theorem execFmoveToEa_confined (ea : EaField) (fmt : BitVec 3) (fpm : RegNum) (k : BitVec 7) :
    Confined 1 (execFmoveToEa ea fmt fpm k) :=
  pull16_confined.before ((resolveEa_confined ea (formatSize (fmtOut fmt k))).answers fun o =>
    ⟨formatSize (fmtOut fmt k), .FMOVE, some (.fr fpm), some o, some (.fpFormat (fmtOut fmt k))⟩)

theorem execFmovemToCtl_confined (ea : EaField) (list : BitVec 3) : Confined 1 (execFmovemToCtl ea list) :=
  pull16_confined.before (.ite (raiseError_confined 0 .reserved)
    ((resolveEa_confined ea (4 * popcount3 list)).answers fun o =>
      ⟨4, .FMOVEM, some o, some (.controlReg (list.setWidth 12)), none⟩))

theorem execFmovemFromCtl_confined (ea : EaField) (list : BitVec 3) : Confined 1 (execFmovemFromCtl ea list) :=
  pull16_confined.before (.ite (raiseError_confined 0 .reserved)
    ((resolveEa_confined ea (4 * popcount3 list)).answers fun o =>
      ⟨4, .FMOVEM, some (.controlReg (list.setWidth 12)), some o, none⟩))

theorem execFscc_confined (ea : EaField) : Confined 1 (execFscc ea) :=
  (pull16_confined.pair (resolveEa_confined ea 1)).answers fun p => ⟨1, .FSCC, some p.2, none, some (fpCondExtra p.1)⟩

/-- FBcc.W consumes the word that the scan peeked at for FNOP's row (49_fpu_control.md R293). -/
theorem execFbccW_confined (cond : BitVec 6) : Confined 1 (execFbccW cond) :=
  pullDisp16_confined.answers fun d => ⟨2, .FBCC, some (branchTarget 2 d), none, some (.fpCondCode (fcondOf cond))⟩

/-- FNOP moves past its second word and reads nothing. -/
theorem execFnop_confined : Confined 1 execFnop := by
  intro s t next e
  cases next
  exact ⟨e, le_rfl, fun _ _ => rfl⟩

/-! Every meaning, grouped by the words it reads. -/

/-- The guarded words of an instruction, those that its encoding holds after the opcode word (30_encoding.md R42). -/
def guardedWords (i : Instr) : Nat := (encode i).length - 1

/-- Every meaning is confined, and consumes its guarded word. -/
theorem exec_confined (i : Instr) : Confined (guardedWords i) (exec i) := by
  cases i with
  -- no word is read
  | illegal | bgnd | reset | nop | rte | rts | trapv | rtr | trap _ | unlk _ | moveToUsp _ | moveFromUsp _ | swap _
  | bkpt _ | extW _ | extL _ | extbL _ | rtm _ | exgDD _ _ | exgAA _ _ | exgDA _ _ | moveq _ _ | trapcc _ | sbcd _ _ _
  | abcd _ _ _ => exact emit_confined _ _ _ _ _
  | cmpm _ _ _ => exact withSize_confined fun _ => emit_confined _ _ _ _ _
  | subx _ _ _ _ | addx _ _ _ _ => exact emitSizedPair_confined _ _ _ _ _
  | asrDy _ _ _ _ | aslDy _ _ _ _ | lsrDy _ _ _ _ | lslDy _ _ _ _ | roxrDy _ _ _ _ | roxlDy _ _ _ _ | rorDy _ _ _ _
  | rolDy _ _ _ _ => exact emitShift_confined _ _ _ _ _
  | cas2 _ => exact raiseError_confined 0 .notImplemented
  -- words alone
  | stop | rtd => exact (pull16_confined.answers fun w => ⟨0, _, some (.imm16 w), none, none⟩).loosen
  | movecFrom =>
    exact (pull16_confined.answers fun w =>
      ⟨4, .MOVEC, some (.controlReg (field w 0 12)), some (regOperand (regOf w 12)), none⟩).loosen
  | movecTo =>
    exact (pull16_confined.answers fun w =>
      ⟨4, .MOVEC, some (regOperand (regOf w 12)), some (.controlReg (field w 0 12)), none⟩).loosen
  | linkW an => exact (pull16_confined.answers fun w => ⟨2, .LINK, some (.ar an), some (.imm16 w), none⟩).loosen
  | linkL an => exact (pull32_confined.answers fun v => ⟨4, .LINK, some (.ar an), some (.imm32 v), none⟩).loosen
  | trapccW c =>
    exact (pull16_confined.answers fun w =>
      ⟨2, .TRAPCC, some (.imm16 w), none, some (.condCode (condOf c))⟩).loosen
  | trapccL c =>
    exact (pull32_confined.answers fun v =>
      ⟨4, .TRAPCC, some (.imm32 v), none, some (.condCode (condOf c))⟩).loosen
  | dbcc c dn =>
    exact (pullDisp16_confined.answers fun d =>
      ⟨2, .DBCC, some (.dr dn), some (branchTarget 2 d), some (.condCode (condOf c))⟩).loosen
  | ftrapcc => exact (pull16_confined.answers fun w => ⟨0, .FTRAPCC, none, none, some (fpCondExtra w)⟩).loosen
  | ftrapccW =>
    exact ((pull16_confined.pair pull16_confined).answers fun p =>
      ⟨2, .FTRAPCC, some (.imm16 p.2), none, some (fpCondExtra p.1)⟩).loosen
  | ftrapccL =>
    exact ((pull16_confined.pair pull32_confined).answers fun p =>
      ⟨4, .FTRAPCC, some (.imm32 p.2), none, some (fpCondExtra p.1)⟩).loosen
  | fdbcc dn =>
    exact ((pull16_confined.pair pullDisp16_confined).answers fun p =>
      ⟨2, .FDBCC, some (.dr dn), some (branchTarget 4 p.2), some (fpCondExtra p.1)⟩).loosen
  | fbccW _ => exact (execFbccW_confined _).loosen
  | fbccL c =>
    exact (pull32_confined.answers fun d =>
      ⟨4, .FBCC, some (branchTarget 2 d), none, some (.fpCondCode (fcondOf c))⟩).loosen
  | fmovecr _ _ => exact pull16_confined.before (emit_confined _ _ _ _ _)
  | fnop => exact execFnop_confined
  | movep _ _ _ _ => exact (execMovep_confined _ _ _ _).loosen
  | pack _ _ _ | unpk _ _ _ => exact (emitAdjust_confined _ _ _ _).loosen
  | oriToCcr | oriToSr | andiToCcr | andiToSr | eoriToCcr | eoriToSr => exact (emitImmToImplied_confined _ _).loosen
  | bra _ | bsr _ | bcc _ _ => exact emitBranch_confined _ _ _
  -- one effective address
  | jsr _ | jmp _ | nbcd _ | pea _ | tas _ | fsave _ | frestore _ | asrEa _ | aslEa _ | lsrEa _ | lslEa _ | roxrEa _
  | roxlEa _ | rorEa _ | rolEa _ | scc _ _ => exact emitEa_confined _ _ _ _ _
  | negx _ _ | clr _ _ | neg _ _ | not _ _ | tst _ _ => exact emitSizedEa_confined _ _ _
  | moveToCcr _ | moveToSr _ | chkL _ _ | chkW _ _ | lea _ _ | divuW _ _ | divsW _ _ | muluW _ _ | mulsW _ _
  | suba _ _ _ | cmpa _ _ _ | adda _ _ _ => exact emitEaTo_confined _ _ _ _
  | moveFromSr _ | moveFromCcr _ => exact emitToEa_confined _ _ _ _
  | cmp _ _ _ => exact withSize_confined fun _ => emitEaTo_confined _ _ _ _
  | eor _ _ _ => exact withSize_confined fun _ => emitToEa_confined _ _ _ _
  | or _ _ _ _ | sub _ _ _ _ | and _ _ _ _ | add _ _ _ _ => exact emitDnEa_confined _ _ _ _ _
  | addq _ _ _ | subq _ _ _ => exact emitQuick_confined _ _ _ _
  | btstDn _ _ | bchgDn _ _ | bclrDn _ _ | bsetDn _ _ => exact emitBitDn_confined _ _ _
  | moveaL _ _ => exact emitMovea_confined 0b10 _ _
  | moveaW _ _ => exact emitMovea_confined 0b11 _ _
  -- a word or an immediate, then an effective address
  | btstImm _ | bchgImm _ | bclrImm _ | bsetImm _ => exact (emitBitImm_confined _ _).loosen
  | callm _ => exact (emitByteToEa_confined _ _ _ _).loosen
  | cmp2 _ _ _ | chk2 _ _ _ => exact emitBounds_confined _ _ _ _
  | casB _ => exact (emitCas_confined 0b01 _).loosen
  | casW _ => exact (emitCas_confined 0b10 _).loosen
  | casL _ => exact (emitCas_confined 0b11 _).loosen
  | ori _ _ | andi _ _ | subi _ _ | addi _ _ | eori _ _ | cmpi _ _ => exact (emitImmToEa_confined _ _ _).loosen
  | moves _ _ => exact (execMoves_confined _ _).loosen
  | movemStore _ _ => exact (execMovemStore_confined _ _).loosen
  | movemLoad _ _ => exact (execMovemLoad_confined _ _).loosen
  | muluL _ _ _ _ | mulsL _ _ _ _ => exact emitMulL_confined _ _ _ _ _
  | divuL64 _ _ _ | divsL64 _ _ _ => exact emitDivL64_confined _ _ _ _
  | divuL32 _ _ _ | divsL32 _ _ _ => exact emitDivL32_confined _ _ _ _ _
  | bftst _ | bfchg _ | bfclr _ | bfset _ => exact (emitBf_confined _ _).loosen
  | bfextu _ | bfexts _ | bfffo _ => exact (emitBfToDn_confined _ _).loosen
  | bfins _ => exact (execBfins_confined _).loosen
  | fscc _ => exact (execFscc_confined _).loosen
  -- two effective addresses
  | moveB _ _ => exact emitMove_confined 0b01 _ _
  | moveL _ _ => exact emitMove_confined 0b10 _ _
  | moveW _ _ => exact emitMove_confined 0b11 _ _
  -- the FPU operations and moves
  | fmove _ _ _ _ | fint _ _ _ _ | fsinh _ _ _ _ | fintrz _ _ _ _ | fsqrt _ _ _ _ | flognp1 _ _ _ _ | fetoxm1 _ _ _ _
  | ftanh _ _ _ _ | fatan _ _ _ _ | fasin _ _ _ _ | fatanh _ _ _ _ | fsin _ _ _ _ | ftan _ _ _ _ | fetox _ _ _ _
  | ftwotox _ _ _ _ | ftentox _ _ _ _ | flogn _ _ _ _ | flog10 _ _ _ _ | flog2 _ _ _ _ | fabs _ _ _ _ | fcosh _ _ _ _
  | fneg _ _ _ _ | facos _ _ _ _ | fcos _ _ _ _ | fgetexp _ _ _ _ | fgetman _ _ _ _ | fdiv _ _ _ _ | fmod _ _ _ _
  | fadd _ _ _ _ | fmul _ _ _ _ | fsgldiv _ _ _ _ | frem _ _ _ _ | fscale _ _ _ _ | fsglmul _ _ _ _ | fsub _ _ _ _
  | fsincos _ _ _ _ _ | fcmp _ _ _ _ | ftst _ _ _ | fsmove _ _ _ _ | fssqrt _ _ _ _ | fdmove _ _ _ _ | fdsqrt _ _ _ _
  | fsabs _ _ _ _ | fsneg _ _ _ _ | fdabs _ _ _ _ | fdneg _ _ _ _ | fsdiv _ _ _ _ | fsadd _ _ _ _ | fsmul _ _ _ _
  | fddiv _ _ _ _ | fdadd _ _ _ _ | fdmul _ _ _ _ | fssub _ _ _ _ | fdsub _ _ _ _ =>
    exact emitFpGeneral_confined _ _ _ _ _
  | fmoveToEa _ _ _ _ => exact execFmoveToEa_confined _ _ _ _
  | fmoveToFpcr _ | fmoveToFpsr _ | fmoveToFpiar _ => exact emitToCtl_confined _ _
  | fmoveFromFpcr _ | fmoveFromFpsr _ | fmoveFromFpiar _ => exact emitFromCtl_confined _ _
  | fmovemToCtl _ _ => exact execFmovemToCtl_confined _ _
  | fmovemFromCtl _ _ => exact execFmovemFromCtl_confined _ _
  | fmovemToFp _ _ _ => exact pull16_confined.before (emitEaTo_confined _ _ _ _)
  | fmovemFromFp _ _ _ => exact pull16_confined.before (emitToEa_confined _ _ _ _)

end Sys2Proof.Machine

/-! The dispatcher is confined: where the scan peeks, the instruction it takes consumes the word peeked at; where it
does not, the next word has no part in what it takes (30_encoding.md R42). -/
namespace Sys2Proof
open Sys2Proof.Machine

/-! Rows. -/

/-- No opcode word passes the first-word tests of both rows: they ask for different values of a bit. -/
def Row.excludes (q r : Row) : Bool := (q.value ^^^ r.value) &&& (q.mask &&& r.mask) != 0

theorem Row.matchesFirst_of_excludes {q r : Row} {w1 : Word} (h : q.excludes r = true)
    (hq : q.matchesFirst w1 = true) : r.matchesFirst w1 = false := by
  by_contra hr
  rw [Bool.not_eq_false] at hr
  rw [Row.excludes, ← eq_of_beq hq, ← eq_of_beq hr, bne_iff_ne] at h
  have bit : ∀ a b c : Bool, (((a && b) ^^ (a && c)) && (b && c)) = false := by decide
  exact h (BitVec.eq_of_getElem_eq fun i hi => by simpa using bit w1[i] q.mask[i] r.mask[i])

/-- A scan that does not peek takes the first row whose first-word test holds, or none. -/
theorem scan_of_not_peeks {rows : List Row} {w1 w2 v2 : Word} (h : peeks rows w1 = false)
    (build : ∀ r ∈ rows, r.guard = none → r.build w1 w2 = r.build w1 v2) : scan rows w1 w2 = scan rows w1 v2 := by
  induction rows with
  | nil => rfl
  | cons r rs ih =>
    by_cases first : r.matchesFirst w1 = true
    · have unguarded : r.guard = none := by simpa [peeks, first] using h
      simp [scan, first, Row.guardHolds, unguarded, build r List.mem_cons_self unguarded]
    · simpa [scan, first] using
        ih (by simpa [peeks, first] using h) fun q hq => build q (List.mem_cons_of_mem r hq)

/-! The groups. -/

/-- A row without a guard builds its instruction from the opcode word alone. -/
theorem group_build_of_unguarded (w1 w2 v2 : Word) :
    ∀ r ∈ group w1, r.guard = none → r.build w1 w2 = r.build w1 v2 := by
  unfold group
  split <;> simp only [rows0000, rows0000_1, rows0000_20, rows0001, rows0010, rows0011, rows0100, rows0100_1,
    rows0100_20, rows0100_39, rows0101, rows0110, rows0111, rows1000, rows1001, rows1010, rows1011, rows1100, rows1101,
    rows1110, rows1110_1, rows1110_20, rows1111, rows1111_1, rows1111_20, rows1111_39, rows1111_58,
    List.forall_mem_append, List.forall_mem_cons, List.not_mem_nil, reduceCtorEq, false_implies, implies_true, and_self]

/-- The instructions that a word the scan peeks after may stand for: those with a guarded word; the immediate
operations, which the first-word tests of CMP2 and CHK2 overlap; and FBcc.W, which FNOP's overlaps. -/
def Instr.takesPeeked : Instr → Bool
  | .ori _ _ | .andi _ _ | .subi _ _ | .addi _ _ | .fbccW _ => true
  | i => guardedWords i == 1

/-- Each of them consumes the word peeked at. -/
theorem exec_confined_of_takesPeeked {i : Instr} (h : i.takesPeeked = true) : Confined 1 (exec i) := by
  unfold Instr.takesPeeked at h
  split at h
  · exact emitImmToEa_confined .ORI _ _
  · exact emitImmToEa_confined .ANDI _ _
  · exact emitImmToEa_confined .SUBI _ _
  · exact emitImmToEa_confined .ADDI _ _
  · exact execFbccW_confined _
  · exact eq_of_beq h ▸ exec_confined _

/-- Each guarded row builds an instruction that takes the word peeked at, and so does each row without a guard that
stands after it and that some opcode word reaches too. -/
def guardedRowsTakePeeked (w1 w2 : Word) : List Row → Bool
  | [] => true
  | q :: rs =>
    (q.guard.isNone ||
      ((q.build w1 w2).takesPeeked &&
        rs.all fun r => r.guard.isSome || q.excludes r || (r.build w1 w2).takesPeeked)) &&
    guardedRowsTakePeeked w1 w2 rs

theorem guardedRowsTakePeeked_cons {w1 w2 : Word} {q : Row} {rs : List Row} :
    guardedRowsTakePeeked w1 w2 (q :: rs) = true ↔
      (q.guard.isSome = true → (q.build w1 w2).takesPeeked = true ∧
        ∀ r ∈ rs, r.guard.isSome = true ∨ q.excludes r = true ∨ (r.build w1 w2).takesPeeked = true) ∧
      guardedRowsTakePeeked w1 w2 rs = true := by
  cases h : q.guard <;> simp [guardedRowsTakePeeked, h, or_assoc]

theorem takesPeeked_of_guarded {rows : List Row} {w1 w2 : Word} (h : guardedRowsTakePeeked w1 w2 rows = true) {r : Row}
    (mem : r ∈ rows) (guarded : r.guard.isSome = true) : (r.build w1 w2).takesPeeked = true := by
  induction rows with
  | nil => cases mem
  | cons q rs ih =>
    obtain ⟨head, tail⟩ := guardedRowsTakePeeked_cons.mp h
    rcases List.mem_cons.mp mem with rfl | later
    · exact (head guarded).1
    · exact ih tail later

/-- The row taken is the guarded row that the scan meets first, or one after it that the same opcode word reaches. -/
theorem takesPeeked_of_scan {rows : List Row} {w1 w2 : Word} {i : Instr}
    (h : guardedRowsTakePeeked w1 w2 rows = true) (peek : peeks rows w1 = true) (taken : scan rows w1 w2 = some i) :
    i.takesPeeked = true := by
  induction rows with
  | nil => cases taken
  | cons q rs ih =>
    obtain ⟨head, tail⟩ := guardedRowsTakePeeked_cons.mp h
    by_cases first : q.matchesFirst w1 = true
    · obtain ⟨own, later⟩ := head (by simpa [peeks, first] using peek)
      by_cases guard : q.guardHolds w2 = true
      · obtain rfl : q.build w1 w2 = i := by simpa [scan, first, guard] using taken
        exact own
      · obtain ⟨r, mem, reached, -, rfl⟩ := scan_eq_some (by simpa [scan, guard] using taken)
        rcases later r mem with guarded | excluded | takes
        · exact takesPeeked_of_guarded tail mem guarded
        · rw [Row.matchesFirst_of_excludes excluded first] at reached
          cases reached
        · exact takes
    · exact ih tail (by simpa [peeks, first] using peek) (by simpa [scan, first] using taken)

theorem group_takesPeeked (w1 w2 : Word) : guardedRowsTakePeeked w1 w2 (group w1) = true := by
  unfold group
  split <;> rfl

/-- Where the scan peeks, the instruction it takes consumes the word peeked at. -/
theorem exec_confined_of_peeksSecond {w1 w2 : Word} {i : Instr} (peek : peeksSecond w1 = true)
    (taken : decodeWords w1 w2 = some i) : Confined 1 (exec i) :=
  exec_confined_of_takesPeeked (takesPeeked_of_scan (group_takesPeeked w1 w2) peek taken)

/-- Where the scan does not peek, the next word has no part in what it takes. -/
theorem decodeWords_of_not_peeksSecond {w1 : Word} (h : peeksSecond w1 = false) (w2 v2 : Word) :
    decodeWords w1 w2 = decodeWords w1 v2 :=
  scan_of_not_peeks h (group_build_of_unguarded w1 w2 v2)

end Sys2Proof

/-! The step depends on the bytes it consumed alone, and so does the result of a call on bytes. -/
namespace Sys2Proof.Machine

/-- What the dispatcher does once it has pulled the opcode word: the scan, then the builder of the row taken. -/
def dispatch (w1 : Word) (s : State) : StepResult :=
  match decodeWords w1 (peekWord 0 s).1 with
  | some i => exec i (scanState w1 s)
  | none => raiseError .notImplemented (scanState w1 s)

/-- The step pulls the opcode word from a fresh cursor, then dispatches. -/
theorem step_eq_dispatch (s : State) : step s = reading pull16 dispatch (freshCursor s) := rfl

theorem dispatch_of_some {w1 : Word} {s : State} {i : Instr} (h : decodeWords w1 (peekWord 0 s).1 = some i) :
    dispatch w1 s = exec i (scanState w1 s) := by
  rw [dispatch, h]

theorem dispatch_of_none {w1 : Word} {s : State} (h : decodeWords w1 (peekWord 0 s).1 = none) :
    dispatch w1 s = raiseError .notImplemented (scanState w1 s) := by
  rw [dispatch, h]

theorem scanState_of_not_peeks {w1 : Word} {s : State} (h : peeksSecond w1 = false) : scanState w1 s = s := by
  simp [scanState, h]

/-- Without a peek the dispatcher is one builder, chosen by the opcode word. -/
theorem dispatch_confined_of_not_peeks {w1 : Word} (peek : peeksSecond w1 = false) : Confined 0 (dispatch w1) := by
  have scan (s : State) := decodeWords_of_not_peeksSecond peek (peekWord 0 s).1 0
  cases taken : decodeWords w1 0 with
  | none =>
    have same : dispatch w1 = raiseError .notImplemented := by
      funext s
      rw [dispatch_of_none ((scan s).trans taken), scanState_of_not_peeks peek]
    exact same ▸ raiseError_confined 0 .notImplemented
  | some i =>
    have same : dispatch w1 = exec i := by
      funext s
      rw [dispatch_of_some ((scan s).trans taken), scanState_of_not_peeks peek]
    exact same ▸ (exec_confined i).loosen

/-- With a peek, the word peeked at is among the bytes consumed, so another buffer that holds them gives the scan the
same word. -/
theorem dispatch_confined_of_peeks {w1 : Word} (peek : peeksSecond w1 = true) : Confined 0 (dispatch w1) := by
  intro s t next e
  cases taken : decodeWords w1 (peekWord 0 s).1 with
  | none =>
    rw [dispatch_of_none taken] at next
    exact absurd e (raiseError_err_ne_none next)
  | some i =>
    rw [dispatch_of_some taken, scanState_of_peeks peek] at next
    obtain ⟨e', moved, same⟩ := exec_confined_of_peeksSecond peek taken _ _ next e
    cases h : s.buf.word? (s.pos + 2 * 0) with
    | none => simp [peekWord_of_none h] at e'
    | some w2 =>
      simp only [peekWord_of_some h] at taken e' moved same
      refine ⟨e', by omega, fun m agree => ?_⟩
      have h' : (s.withBuf m).buf.word? ((s.withBuf m).pos + 2 * 0) = some w2 :=
        (agree.word? (by simpa using moved)).trans h
      have taken' : decodeWords w1 (peekWord 0 (s.withBuf m)).1 = some i := by rwa [peekWord_of_some h']
      rw [dispatch_of_some taken', scanState_of_peeks peek, peekWord_of_some h']
      exact same m agree

theorem dispatch_confined (w1 : Word) : Confined 0 (dispatch w1) := by
  cases peek : peeksSecond w1 with
  | false => exact dispatch_confined_of_not_peeks peek
  | true => exact dispatch_confined_of_peeks peek

/-- A step that ends with no error ends the same on every buffer that agrees with its own below its final position. -/
theorem step_withBuf {s t : State} (next : step s = .next t) (e : t.err = none) {m : Memory}
    (agree : s.buf.AgreeBelow t.pos m) : step (s.withBuf m) = .next (t.withBuf m) := by
  obtain ⟨-, -, same⟩ := pull16_confined 0 dispatch dispatch_confined (freshCursor s) t next e
  exact same m agree

/-! The call on bytes. -/

theorem stateOf_inv (bytes : List Byte) : (stateOf bytes).inv = true :=
  State.inv_iff.mpr ⟨Memory.ofBytes_wf bytes, rfl, rfl⟩

/-- What holds at the end of a call that is `Ok`: no error is recorded, and its length is the final position, inside the
bytes (10_state.md R23). -/
theorem step_of_decodeCall_ok {bytes : List Byte} {d : DecodedInstruction} (h : decodeCall bytes = some (.ok d)) :
    ∃ t, step (stateOf bytes) = .next t ∧ t.result = some (.ok d) ∧ t.err = none ∧ t.pos = d.bytesUsed ∧
      d.bytesUsed ≤ bytes.length := by
  obtain ⟨t, next, inv, buf, -⟩ := stepKeepsTheInvariant (stateOf bytes) (stateOf_inv bytes)
  have result : t.result = some (.ok d) := by rwa [decodeCall, next] at h
  obtain ⟨-, -, fits⟩ := State.inv_iff.mp inv
  have length : t.buf.length = bytes.length := by simp [buf, stateOf]
  simp only [State.resultFits, result, State.len, length, Bool.and_eq_true, Option.isNone_iff_eq_none, beq_iff_eq,
    decide_eq_true_eq] at fits
  obtain ⟨⟨⟨⟨⟨⟨⟨e, used⟩, -⟩, -⟩, inside⟩, -⟩, -⟩, -⟩ := fits
  exact ⟨t, next, result, e, used.symm, inside⟩

/-- A call that ends `Ok` ends the same on all bytes that begin as those it used. -/
theorem decodeCall_of_agree {bytes bytes' : List Byte} {d : DecodedInstruction} (h : decodeCall bytes = some (.ok d))
    (agree : ∀ off < d.bytesUsed, bytes'[off]? = bytes[off]?) : decodeCall bytes' = some (.ok d) := by
  obtain ⟨t, next, result, e, pos, -⟩ := step_of_decodeCall_ok h
  have agree' : (stateOf bytes).buf.AgreeBelow t.pos (Memory.ofBytes bytes') := fun off below => by
    simpa [stateOf] using agree off (pos ▸ below)
  have next' : step (stateOf bytes') = .next (t.withBuf (Memory.ofBytes bytes')) := step_withBuf next e agree'
  rw [decodeCall, next']
  exact result

/-- Settles O57: the first `bytesUsed` bytes, and the bytes with any others after them, begin as the call's own do. -/
theorem trailingBytesDoNotMatter : Obligations.TrailingBytesDoNotMatter := by
  intro bytes more d h
  obtain ⟨-, -, -, -, -, inside⟩ := step_of_decodeCall_ok h
  refine ⟨decodeCall_of_agree h fun off below => ?_, decodeCall_of_agree h fun off below => ?_⟩
  · exact List.getElem?_take_of_lt below
  · exact List.getElem?_append_left (by omega)

end Sys2Proof.Machine

/-! The fields of an opcode word. An encoding is a concatenation of fields; a mask test and a field read of it go
through the concatenation, part by part. -/
namespace Sys2Proof
open Sys2Proof.Machine

/-- Two words are equal where their upper and their lower parts are. -/
theorem eq_iff_extractLsb' {m n : Nat} (x y : BitVec (m + n)) :
    x = y ↔ x.extractLsb' n m = y.extractLsb' n m ∧ x.extractLsb' 0 n = y.extractLsb' 0 n := by
  refine ⟨fun h => h ▸ ⟨rfl, rfl⟩, fun ⟨high, low⟩ => ?_⟩
  rw [← BitVec.extractLsb'_append_extractLsb' (x := x), high, low, BitVec.extractLsb'_append_extractLsb']

/-- A field of a field is a field of the word. -/
theorem extractLsb'_extractLsb' {l lo len start n : Nat} (w : BitVec l) (h : start + n ≤ len) :
    (w.extractLsb' lo len).extractLsb' start n = w.extractLsb' (lo + start) n := by
  ext i hi
  have inside : start + i < len := by omega
  simp [inside, Nat.add_assoc]

/-- A field whose bits are all under the mask is the value's field. -/
theorem extractLsb'_of_masked {w mask value : Word} (h : (w &&& mask == value) = true) {lo n : Nat}
    (under : mask.extractLsb' lo n = BitVec.allOnes n) : w.extractLsb' lo n = value.extractLsb' lo n := by
  rw [← eq_of_beq h, BitVec.extractLsb'_and, under, BitVec.and_allOnes]

theorem and_eq_self_of_eq_allOnes {n : Nat} {mask : BitVec n} (h : mask = BitVec.allOnes n) (x : BitVec n) :
    x &&& mask = x := by rw [h, BitVec.and_allOnes]

theorem ofBool_getLsbD (w : Word) (i : Nat) : BitVec.ofBool (w.getLsbD i) = w.extractLsb' i 1 :=
  BitVec.eq_of_getElem_eq fun j hj => by
    obtain rfl : j = 0 := by omega
    simp

/-! The four laws of a concatenation. The encoder's words have a numeral for their width where the library's laws have
a sum of two widths, so each law takes the width `k` with its proof. -/

section
variable {m n k : Nat} {cat : HAppend (BitVec m) (BitVec n) (BitVec k)} (hk : k = m + n)
  (hcat : cat = hk ▸ BitVec.instHAppendHAddNat) {a : BitVec m} {b : BitVec n}
include hcat

/-- A mask test of a concatenation tests its two parts. -/
theorem append_and_beq (mask value : BitVec k) :
    ((a ++ b) &&& mask == value) =
      ((a &&& mask.extractLsb' n m == value.extractLsb' n m) &&
        (b &&& mask.extractLsb' 0 n == value.extractLsb' 0 n)) := by
  subst hk hcat
  rw [Bool.eq_iff_iff]
  simp [eq_iff_extractLsb' ((a ++ b) &&& mask), BitVec.extractLsb'_and, BitVec.extractLsb'_append_eq_left,
    BitVec.extractLsb'_append_eq_right]

/-- A field of a concatenation that lies in one part is a field of that part. -/
theorem extractLsb'_append (lo len : Nat) :
    (a ++ b).extractLsb' lo len = if lo + len ≤ n then b.extractLsb' lo len
      else if n ≤ lo then a.extractLsb' (lo - n) len else BitVec.ofNat len ((a ++ b).toNat >>> lo) := by
  subst hk hcat
  split
  next low => exact BitVec.extractLsb'_append_eq_of_add_le low
  next =>
    split
    next high => exact BitVec.extractLsb'_append_eq_of_le high
    next => rfl

/-- A bit of a concatenation is a bit of the part it lies in. -/
theorem getLsbD_append (i : Nat) : (a ++ b).getLsbD i = if i < n then b.getLsbD i else a.getLsbD (i - n) := by
  subst hk hcat
  exact BitVec.getLsbD_append

/-- A concatenation is a field of a word where its parts are the two parts of the field. -/
theorem append_eq_extractLsb' {l lo : Nat} {w : BitVec l} :
    a ++ b = w.extractLsb' lo k ↔ a = w.extractLsb' (lo + n) m ∧ b = w.extractLsb' lo n := by
  subst hk hcat
  rw [eq_iff_extractLsb', BitVec.extractLsb'_append_eq_left, BitVec.extractLsb'_append_eq_right,
    extractLsb'_extractLsb' w (Nat.le_of_eq (Nat.add_comm n m)), extractLsb'_extractLsb' w (by omega), Nat.add_zero]

end

end Sys2Proof

/-! The rows in one table. The constructors of `Instr` stand in the rows' order, so a constructor's number is its row's
place, and an instruction is decoded exactly where its own row is the first that takes the words. -/
namespace Sys2Proof
open Sys2Proof.Machine

/-- A row takes a word pair: its two tests hold (30_encoding.md R42). -/
def Row.takes (r : Row) (w1 w2 : Word) : Bool := r.matchesFirst w1 && r.guardHolds w2

/-- The sixteen groups, by their number. -/
def groups : List (List Row) :=
  [rows0000, rows0001, rows0010, rows0011, rows0100, rows0101, rows0110, rows0111, rows1000, rows1001, rows1010,
    rows1011, rows1100, rows1101, rows1110, rows1111]

theorem group_eq_groups (w1 : Word) : group w1 = groups.getD (field w1 12 4).toNat [] := by
  unfold group
  have bound : (field w1 12 4).toNat < 16 := (field w1 12 4).isLt
  generalize (field w1 12 4).toNat = number at bound
  interval_cases number <;> rfl

/-- All the rows of the opcode table, group after group. -/
def table : List Row := groups.flatten

/-- A scan takes the first row that takes the words. -/
theorem scan_eq_some_iff {rows : List Row} {w1 w2 : Word} {i : Instr} :
    scan rows w1 w2 = some i ↔ ∃ k r, rows[k]? = some r ∧ r.takes w1 w2 = true ∧ r.build w1 w2 = i ∧
      ∀ q ∈ rows.take k, q.takes w1 w2 = false := by
  induction rows with
  | nil => simp [scan]
  | cons r rs ih =>
    by_cases taken : r.takes w1 w2 = true
    · have first : scan (r :: rs) w1 w2 = some (r.build w1 w2) := if_pos taken
      rw [first, Option.some.injEq]
      refine ⟨fun build => ⟨0, r, rfl, taken, build, by simp⟩, ?_⟩
      rintro ⟨k, q, place, -, build, earlier⟩
      cases k with
      | zero => exact Option.some.inj place ▸ build
      | succ k => simp [taken] at earlier
    · have skipped : scan (r :: rs) w1 w2 = scan rs w1 w2 := if_neg taken
      rw [skipped, ih]
      constructor
      · rintro ⟨k, q, place, takes, build, earlier⟩
        exact ⟨k + 1, q, place, takes, build, by simpa [taken] using earlier⟩
      · rintro ⟨k, q, place, takes, build, earlier⟩
        cases k with
        | zero => exact absurd (Option.some.inj place ▸ takes) taken
        | succ k => exact ⟨k, q, place, takes, build, by simpa [taken] using earlier⟩

theorem scan_eq_none {rows : List Row} {w1 w2 : Word} (h : ∀ r ∈ rows, r.matchesFirst w1 = false) :
    scan rows w1 w2 = none := by
  induction rows with
  | nil => rfl
  | cons r rs ih => simpa [scan, h r] using ih fun q mem => h q (List.mem_cons_of_mem r mem)

theorem scan_append (xs ys : List Row) (w1 w2 : Word) :
    scan (xs ++ ys) w1 w2 = (scan xs w1 w2).or (scan ys w1 w2) := by
  induction xs with
  | nil => rfl
  | cons r rs ih =>
    rw [List.cons_append, scan, scan, ih]
    split <;> rfl

/-- Where the rows of all groups but one fail, the scan of all groups is the scan of that one. -/
theorem scan_flatten {gs : List (List Row)} {k : Nat} {w1 w2 : Word}
    (h : ∀ j, j ≠ k → ∀ r ∈ gs.getD j [], r.matchesFirst w1 = false) :
    scan gs.flatten w1 w2 = scan (gs.getD k []) w1 w2 := by
  induction gs generalizing k with
  | nil => rfl
  | cons g gs ih =>
    rw [List.flatten_cons, scan_append]
    cases k with
    | zero =>
      have rest : scan gs.flatten w1 w2 = none := scan_eq_none fun r mem => by
        obtain ⟨rows, here, mem⟩ := List.mem_flatten.mp mem
        obtain ⟨j, bound, rfl⟩ := List.getElem_of_mem here
        exact h (j + 1) (Nat.succ_ne_zero j) r (by simpa [bound] using mem)
      rw [rest, Option.or_none]
      rfl
    | succ k =>
      have head : scan g w1 w2 = none := scan_eq_none (h 0 (Nat.succ_ne_zero k).symm)
      rw [head, Option.none_or]
      exact ih fun j other => h (j + 1) (fun e => other (Nat.succ.inj e))

/-- Every row tests the four bits that select its group (30_encoding.md R40). -/
theorem groups_test_number : ((List.range 16).all fun k => (groups.getD k []).all fun r =>
    field r.mask 12 4 == BitVec.allOnes 4 && (field r.value 12 4).toNat == k) = true := by
  decide +kernel

theorem number_of_matchesFirst {k : Nat} {r : Row} {w1 : Word} (mem : r ∈ groups.getD k [])
    (first : r.matchesFirst w1 = true) : (field w1 12 4).toNat = k := by
  have bound : k < 16 := by
    by_contra past
    rw [List.getD_eq_default _ _ (Nat.le_of_not_lt past)] at mem
    cases mem
  have test := List.all_eq_true.mp (List.all_eq_true.mp groups_test_number k (List.mem_range.mpr bound)) r mem
  obtain ⟨mask, value⟩ := Bool.and_eq_true_iff.mp test
  rw [field, extractLsb'_of_masked first (eq_of_beq mask)]
  exact eq_of_beq value

/-- The dispatcher scans the whole table: no row of another group takes the words. -/
theorem decodeWords_eq_scan_table (w1 w2 : Word) : decodeWords w1 w2 = scan table w1 w2 := by
  rw [decodeWords, group_eq_groups, table, scan_flatten]
  intro j other r mem
  by_contra first
  exact other (number_of_matchesFirst mem (Bool.not_eq_false _ ▸ first)).symm

/-- The row at a place of the table. -/
def rowAt (k : Nat) : Row := table.getD k ⟨0, 0, none, fun _ _ => .nop⟩

/-- The row of an instruction: the constructors stand in the rows' order. -/
def Instr.row (i : Instr) : Row := rowAt i.ctorIdx

/-- The constructor a row builds does not depend on the words. -/
theorem groups_build_ctorIdx (w1 w2 : Word) :
    (groups.all fun rows => rows.all fun r => (r.build w1 w2).ctorIdx == (r.build 0 0).ctorIdx) = true := by
  rfl

theorem table_ctorIdx : table.map (fun r => (r.build 0 0).ctorIdx) = List.range 217 := by
  decide +kernel

/-- The row at place `k` builds the constructor of number `k`. -/
theorem ctorIdx_build {k : Nat} {r : Row} (place : table[k]? = some r) (w1 w2 : Word) :
    (r.build w1 w2).ctorIdx = k := by
  have zero : (r.build 0 0).ctorIdx = k := by
    have number := congrArg (·[k]?) table_ctorIdx
    simp only [List.getElem?_map, place, Option.map_some] at number
    obtain ⟨_, same⟩ := List.getElem?_eq_some_iff.mp number.symm
    simpa using same.symm
  obtain ⟨rows, here, mem⟩ := List.mem_flatten.mp (List.mem_of_getElem? place)
  have same := List.all_eq_true.mp (List.all_eq_true.mp (groups_build_ctorIdx w1 w2) rows here) r mem
  exact (eq_of_beq same).trans zero

theorem table_length : table.length = 217 := by decide +kernel

theorem ctorIdx_lt_table_length (i : Instr) : i.ctorIdx < table.length := by
  rw [table_length]
  cases i <;> exact Nat.le_of_ble_eq_true rfl

theorem table_getElem?_ctorIdx (i : Instr) : table[i.ctorIdx]? = some i.row := by
  rw [Instr.row, rowAt, List.getD_eq_getElem?_getD, List.getElem?_eq_getElem (ctorIdx_lt_table_length i)]
  rfl

/-- An instruction is decoded from two words where its own row takes them and builds it, and no earlier row does. -/
theorem decodeWords_eq_some_iff {w1 w2 : Word} {i : Instr} :
    decodeWords w1 w2 = some i ↔ i.row.takes w1 w2 = true ∧ i.row.build w1 w2 = i ∧
      ∀ q ∈ table.take i.ctorIdx, q.takes w1 w2 = false := by
  rw [decodeWords_eq_scan_table, scan_eq_some_iff]
  constructor
  · rintro ⟨k, r, place, takes, build, earlier⟩
    obtain rfl : i.ctorIdx = k := build ▸ ctorIdx_build place w1 w2
    obtain rfl : i.row = r := Option.some.inj ((table_getElem?_ctorIdx i).symm.trans place)
    exact ⟨takes, build, earlier⟩
  · rintro ⟨takes, build, earlier⟩
    exact ⟨_, _, table_getElem?_ctorIdx i, takes, build, earlier⟩

end Sys2Proof

/-! Encoding and decoding of one row: the row of an instruction takes the words of its encoding and builds the
instruction back, and the encoding of what a row builds begins with the opcode word it was built from. -/
namespace Sys2Proof
open Sys2Proof.Machine

/-- The opcode word of an instruction. -/
def Instr.opcode (i : Instr) : Word := (encode i).headD 0

/-- The word after the opcode word: the guarded one where the row has a guard, else the word `x` that follows. -/
def Instr.second (i : Instr) (x : Word) : Word := (encode i).getD 1 x

/-- An encoding is the opcode word, and the guarded word after it where the row has a guard. -/
theorem encode_eq (i : Instr) (x : Word) :
    encode i = [i.opcode] ∧ i.second x = x ∨ encode i = [i.opcode, i.second x] := by
  cases i <;> simp [Instr.opcode, Instr.second, encode]

/-- The row of an instruction takes the words of its encoding: each part of the encoding is a field under the row's
masks, with the row's value, or a field the masks leave free. -/
theorem row_takes_encode (i : Instr) (x : Word) : i.row.takes i.opcode (i.second x) = true := by
  generalize own : i.row = r
  cases i
  all_goals
    conv at own => lhs; whnf
    subst own
    simp (disch := rfl) only [Row.takes, Row.matchesFirst, Row.guardHolds, Instr.opcode, Instr.second, encode,
      List.headD_cons, List.getD_cons_succ, List.getD_cons_zero, flag, eaBits, dstBits, regBits, append_and_beq]
    simp [and_eq_self_of_eq_allOnes]

/-- The row of an instruction builds it back from its encoding: each field it reads is a part of the encoding. -/
theorem row_build_encode (i : Instr) (x : Word) : i.row.build i.opcode (i.second x) = i := by
  generalize own : i.row = r
  cases i
  all_goals
    conv at own => lhs; whnf
    subst own
    simp (disch := rfl) [Instr.opcode, Instr.second, encode, -List.getD_eq_getElem?_getD, List.getD_cons_succ,
      List.getD_cons_zero, flag, eaBits, dstBits, regBits, field, bitOf, eaOf, dstOf, regOf, extractLsb'_append,
      getLsbD_append, -BitVec.getLsbD_eq_getElem]

/-- The encoding of what a row builds begins with the opcode word it was built from: its constant parts are the row's
value, under the row's mask, and its other parts are the fields the row reads. -/
theorem opcode_row_build (i : Instr) {w1 : Word} (w2 : Word) (h : i.row.matchesFirst w1 = true) :
    (i.row.build w1 w2).opcode = w1 := by
  refine .trans ?_ BitVec.extractLsb'_eq_self
  generalize own : i.row = r at h
  cases i
  all_goals
    conv at own => lhs; whnf
    subst own
    rw [Row.matchesFirst] at h
    simp (disch := rfl) only [Instr.opcode, encode, List.headD_cons, flag, eaBits, dstBits, regBits, field, bitOf, eaOf,
      dstOf, regOf, ofBool_getLsbD, append_eq_extractLsb']
    simp [extractLsb'_of_masked h, -BitVec.extractLsb'_eq_self]

end Sys2Proof

/-! The earlier rows that reach the words of a row. Most rows of the table ask for different values of some bit; the
rest overlap, and well-formedness is exactly that none of the earlier overlapping rows takes the words
(30_encoding.md R42, R45). -/
namespace Sys2Proof
open Sys2Proof.Machine

/-- The two tests of a row: mask and value over the opcode word, and the guard. -/
abbrev Tests := (Word × Word) × Option (Word × Word)

def Row.tests (r : Row) : Tests := ((r.mask, r.value), r.guard)

def Tests.hold (t : Tests) (w1 w2 : Word) : Bool := (w1 &&& t.1.1 == t.1.2) && t.2.all fun g => w2 &&& g.1 == g.2

theorem Row.takes_eq_hold (r : Row) (w1 w2 : Word) : r.takes w1 w2 = r.tests.hold w1 w2 := by
  obtain ⟨mask, value, _ | guard, build⟩ := r <;> rfl

/-- A mask and a value, as the first-word test of a row. -/
def testRow (t : Word × Word) : Row := ⟨t.1, t.2, none, fun _ _ => .nop⟩

/-- No word pair is taken by both rows: a test of the one and the same test of the other exclude each other. -/
def Row.apart (q r : Row) : Bool :=
  q.excludes r || q.guard.any fun g => r.guard.any fun h => (testRow g).excludes (testRow h)

theorem Row.guardHolds_of_some {r : Row} {g : Word × Word} (h : r.guard = some g) (w2 : Word) :
    r.guardHolds w2 = (testRow g).matchesFirst w2 := by
  simp [Row.guardHolds, h, testRow, Row.matchesFirst]

theorem Row.takes_of_apart {q r : Row} {w1 w2 : Word} (apart : q.apart r = true) (h : r.takes w1 w2 = true) :
    q.takes w1 w2 = false := by
  by_contra both
  obtain ⟨first, guard⟩ := Bool.and_eq_true_iff.mp h
  obtain ⟨first', guard'⟩ := Bool.and_eq_true_iff.mp (Bool.not_eq_false _ ▸ both)
  rcases Bool.or_eq_true_iff.mp apart with excluded | excluded
  · rw [Row.matchesFirst_of_excludes excluded first'] at first
    cases first
  · simp only [Option.any_eq_true] at excluded
    obtain ⟨g, hg, g', hg', excluded⟩ := excluded
    rw [Row.guardHolds_of_some hg] at guard'
    rw [Row.guardHolds_of_some hg', Row.matchesFirst_of_excludes excluded guard'] at guard
    cases guard

/-- The earlier rows of the table that may take the words of row `k`. -/
def rivalsAt (k : Nat) : List Row := (table.take k).filter fun q => !q.apart (rowAt k)

/-- The tests of the earlier rows that may take the words of an instruction, as the corner cases of its rule name
them. -/
def Instr.shadows : Instr → List Tests
  -- MOVEP
  | .btstDn _ _ | .bchgDn _ _ | .bclrDn _ _ | .bsetDn _ _ => [((0xF138, 0x0108), none)]
  -- RTM
  | .callm _ => [((0xFFF0, 0x06C0), none)]
  -- RTM, CALLM
  | .cmp2 _ _ _ | .chk2 _ _ _ => [((0xFFF0, 0x06C0), none), ((0xFFC0, 0x06C0), none)]
  -- CAS2
  | .casW _ | .casL _ => [((0xFDFF, 0x0CFC), none)]
  -- the immediate forms to CCR and SR, CMP2, CHK2
  | .ori _ _ => [((0xFFFF, 0x003C), none), ((0xFFFF, 0x007C), none), ((0xF9C0, 0x00C0), some (0x0800, 0x0000)),
      ((0xF9C0, 0x00C0), some (0x0800, 0x0800))]
  | .andi _ _ => [((0xFFFF, 0x023C), none), ((0xFFFF, 0x027C), none), ((0xF9C0, 0x00C0), some (0x0800, 0x0000)),
      ((0xF9C0, 0x00C0), some (0x0800, 0x0800))]
  -- CMP2, CHK2
  | .subi _ _ => [((0xF9C0, 0x00C0), some (0x0800, 0x0000)), ((0xF9C0, 0x00C0), some (0x0800, 0x0800))]
  -- RTM, CALLM, CMP2, CHK2
  | .addi _ _ => [((0xFFF0, 0x06C0), none), ((0xFFC0, 0x06C0), none), ((0xF9C0, 0x00C0), some (0x0800, 0x0000)),
      ((0xF9C0, 0x00C0), some (0x0800, 0x0800))]
  -- EORI to CCR and SR, CAS
  | .eori _ _ => [((0xFFFF, 0x0A3C), none), ((0xFFFF, 0x0A7C), none), ((0xFFC0, 0x0AC0), none)]
  -- CAS2, CAS
  | .cmpi _ _ => [((0xFDFF, 0x0CFC), none), ((0xFFC0, 0x0CC0), none)]
  | .moves _ _ => [((0xFDFF, 0x0CFC), none), ((0xFFC0, 0x0EC0), none)]
  -- MOVEA
  | .moveL _ _ => [((0xF1C0, 0x2040), none)]
  | .moveW _ _ => [((0xF1C0, 0x3040), none)]
  -- LINK.L; SWAP and BKPT; EXT
  | .nbcd _ => [((0xFFF8, 0x4808), none)]
  | .pea _ => [((0xFFF8, 0x4840), none), ((0xFFF8, 0x4848), none)]
  | .movemStore _ _ => [((0xFFF8, 0x4880), none), ((0xFFF8, 0x48C0), none)]
  -- the moves from and to SR and CCR
  | .negx _ _ => [((0xFFC0, 0x40C0), none)]
  | .clr _ _ => [((0xFFC0, 0x42C0), none)]
  | .neg _ _ => [((0xFFC0, 0x44C0), none)]
  | .not _ _ => [((0xFFC0, 0x46C0), none)]
  -- ILLEGAL, BGND, TAS; EXTB
  | .tas _ => [((0xFFFF, 0x4AFC), none), ((0xFFFF, 0x4AFA), none)]
  | .tst _ _ => [((0xFFFF, 0x4AFC), none), ((0xFFFF, 0x4AFA), none), ((0xFFC0, 0x4AC0), none)]
  | .lea _ _ => [((0xFFF8, 0x49C0), none)]
  -- DBcc, the three TRAPcc forms, Scc
  | .scc _ _ => [((0xF0F8, 0x50C8), none), ((0xF0FF, 0x50FA), none), ((0xF0FF, 0x50FB), none),
      ((0xF0FF, 0x50FC), none)]
  | .addq _ _ _ | .subq _ _ _ => [((0xF0F8, 0x50C8), none), ((0xF0FF, 0x50FA), none), ((0xF0FF, 0x50FB), none),
      ((0xF0FF, 0x50FC), none), ((0xF0C0, 0x50C0), none)]
  -- BRA, BSR
  | .bcc _ _ => [((0xFF00, 0x6000), none), ((0xFF00, 0x6100), none)]
  -- DIVU, DIVS, SBCD, PACK, UNPK
  | .or _ _ _ _ => [((0xF1C0, 0x80C0), none), ((0xF1C0, 0x81C0), none), ((0xF1F0, 0x8100), none),
      ((0xF1F0, 0x8140), none), ((0xF1F0, 0x8180), none)]
  -- SUBA, SUBX; CMPA, CMPM; ADDA, ADDX
  | .subx _ _ _ _ => [((0xF0C0, 0x90C0), none)]
  | .sub _ _ _ _ => [((0xF0C0, 0x90C0), none), ((0xF130, 0x9100), none)]
  | .cmpm _ _ _ | .cmp _ _ _ => [((0xF0C0, 0xB0C0), none)]
  | .eor _ _ _ => [((0xF0C0, 0xB0C0), none), ((0xF138, 0xB108), none)]
  | .addx _ _ _ _ => [((0xF0C0, 0xD0C0), none)]
  | .add _ _ _ _ => [((0xF0C0, 0xD0C0), none), ((0xF130, 0xD100), none)]
  -- MULU, MULS, ABCD, EXG
  | .and _ _ _ _ => [((0xF1C0, 0xC0C0), none), ((0xF1C0, 0xC1C0), none), ((0xF1F0, 0xC100), none),
      ((0xF1F8, 0xC140), none), ((0xF1F8, 0xC148), none), ((0xF1F8, 0xC188), none)]
  -- the bitfield forms and the memory shifts of one direction
  | .asrDy _ _ _ _ | .lsrDy _ _ _ _ | .roxrDy _ _ _ _ | .rorDy _ _ _ _ =>
    [((0xFFC0, 0xE8C0), none), ((0xFFC0, 0xEAC0), none), ((0xFFC0, 0xECC0), none), ((0xFFC0, 0xEEC0), none),
      ((0xFFC0, 0xE0C0), none), ((0xFFC0, 0xE2C0), none), ((0xFFC0, 0xE4C0), none), ((0xFFC0, 0xE6C0), none)]
  | .aslDy _ _ _ _ | .lslDy _ _ _ _ | .roxlDy _ _ _ _ | .rolDy _ _ _ _ =>
    [((0xFFC0, 0xE9C0), none), ((0xFFC0, 0xEBC0), none), ((0xFFC0, 0xEDC0), none), ((0xFFC0, 0xEFC0), none),
      ((0xFFC0, 0xE1C0), none), ((0xFFC0, 0xE3C0), none), ((0xFFC0, 0xE5C0), none), ((0xFFC0, 0xE7C0), none)]
  -- FMOVECR
  | .fmove _ _ _ _ | .fint _ _ _ _ | .fsinh _ _ _ _ | .fintrz _ _ _ _ | .fsqrt _ _ _ _ | .flognp1 _ _ _ _
  | .fetoxm1 _ _ _ _ | .ftanh _ _ _ _ | .fatan _ _ _ _ | .fasin _ _ _ _ | .fatanh _ _ _ _ | .fsin _ _ _ _
  | .ftan _ _ _ _ | .fetox _ _ _ _ | .ftwotox _ _ _ _ | .ftentox _ _ _ _ | .flogn _ _ _ _ | .flog10 _ _ _ _
  | .flog2 _ _ _ _ | .fabs _ _ _ _ | .fcosh _ _ _ _ | .fneg _ _ _ _ | .facos _ _ _ _ | .fcos _ _ _ _
  | .fgetexp _ _ _ _ | .fgetman _ _ _ _ | .fdiv _ _ _ _ | .fmod _ _ _ _ | .fadd _ _ _ _ | .fmul _ _ _ _
  | .fsgldiv _ _ _ _ | .frem _ _ _ _ | .fscale _ _ _ _ | .fsglmul _ _ _ _ | .fsub _ _ _ _ | .fsincos _ _ _ _ _
  | .fcmp _ _ _ _ | .ftst _ _ _ | .fsmove _ _ _ _ | .fssqrt _ _ _ _ | .fdmove _ _ _ _ | .fdsqrt _ _ _ _
  | .fsabs _ _ _ _ | .fsneg _ _ _ _ | .fdabs _ _ _ _ | .fdneg _ _ _ _ | .fsdiv _ _ _ _ | .fsadd _ _ _ _
  | .fsmul _ _ _ _ | .fddiv _ _ _ _ | .fdadd _ _ _ _ | .fdmul _ _ _ _ | .fssub _ _ _ _ | .fdsub _ _ _ _ =>
    [((0xFFFF, 0xF200), some (0xFC00, 0x5C00))]
  -- FMOVE of one control register
  | .fmovemToCtl _ _ => [((0xFFC0, 0xF200), some (0xFC00, 0x9000)), ((0xFFC0, 0xF200), some (0xFC00, 0x8800)),
      ((0xFFC0, 0xF200), some (0xFC00, 0x8400))]
  | .fmovemFromCtl _ _ => [((0xFFC0, 0xF200), some (0xFC00, 0xB000)), ((0xFFC0, 0xF200), some (0xFC00, 0xA800)),
      ((0xFFC0, 0xF200), some (0xFC00, 0xA400))]
  -- FDBcc, the three FTRAPcc forms; FNOP
  | .fscc _ => [((0xFFF8, 0xF248), none), ((0xFFFF, 0xF27A), none), ((0xFFFF, 0xF27B), none), ((0xFFFF, 0xF27C), none)]
  | .fbccW _ => [((0xFFFF, 0xF280), some (0xFFFF, 0x0000))]
  | _ => []

theorem rivalsAt_tests : ((List.range 217).all fun k =>
    (rivalsAt k).map Row.tests == ((rowAt k).build 0 0).shadows) = true := by
  decide +kernel

/-- The shadows of an instruction depend on its constructor alone. -/
theorem shadows_row_build (i : Instr) : (i.row.build 0 0).shadows = i.shadows := by
  cases i <;> rfl

theorem map_tests_rivalsAt (i : Instr) : (rivalsAt i.ctorIdx).map Row.tests = i.shadows := by
  have here : i.ctorIdx ∈ List.range 217 := List.mem_range.mpr (table_length ▸ ctorIdx_lt_table_length i)
  exact (eq_of_beq (List.all_eq_true.mp rivalsAt_tests _ here)).trans (shadows_row_build i)

/-- No earlier row takes the words of an instruction where the tests of none of its shadows hold. -/
theorem earlier_take_iff {i : Instr} {w1 w2 : Word} (own : i.row.takes w1 w2 = true) :
    (∀ q ∈ table.take i.ctorIdx, q.takes w1 w2 = false) ↔ ∀ t ∈ i.shadows, t.hold w1 w2 = false := by
  rw [← map_tests_rivalsAt, List.forall_mem_map]
  constructor
  · intro earlier q mem
    exact Row.takes_eq_hold q w1 w2 ▸ earlier q (List.mem_filter.mp mem).1
  · intro shadows q mem
    by_cases apart : q.apart i.row = true
    · exact Row.takes_of_apart apart own
    · exact Row.takes_eq_hold q w1 w2 ▸ shadows q (List.mem_filter.mpr ⟨mem, by simpa [Instr.row] using apart⟩)

end Sys2Proof

/-! Well-formedness is exactly that no earlier overlapping row takes the words. -/
namespace Sys2Proof
open Sys2Proof.Machine

/-- No earlier row that may take the words of an instruction takes them. -/
def Instr.clear (i : Instr) (w2 : Word) : Bool := i.shadows.all fun t => !t.hold i.opcode w2

theorem eaField_isNot (ea : EaField) (mode reg : BitVec 3) :
    EaField.isNot ea mode reg = (!ea.mode == mode || !ea.reg == reg) := Bool.not_and _ _

/-- The mask of the upper two mode bits tests for the two register modes. -/
theorem mode_and_six (mode : BitVec 3) : (mode &&& 6#3 == 0#3) = (mode == 0#3 || mode == 1#3) := by
  decide +revert

/-- CMP2 and CHK2 take both values of bit 11 of the command word between them. -/
theorem bit11_clear (c : Bool) (w : Word) :
    ((c || !w &&& 2048#16 == 0#16) && (c || !w &&& 2048#16 == 2048#16)) = c := by
  rw [show 2048#16 = BitVec.twoPow 16 11 from rfl, BitVec.and_twoPow]
  cases c
  · split <;> rfl
  · rfl

/-- An immediate form's size codes 0 and 1 with an immediate address belong to CCR and SR. -/
theorem immediate_sizes (ss : BitVec 2) (other : Bool) :
    (!ss == 3#2 && (ss == 2#2 || other)) = ((!ss == 0#2 || other) && ((!ss == 1#2 || other) && !ss == 3#2)) := by
  decide +revert

/-- The register forms of OR to the address belong to SBCD, PACK and UNPK, and size code 11 to the divisions. -/
theorem or_sizes (ss : BitVec 2) (toEa register : Bool) :
    (!ss == 3#2 && (!toEa || !register)) =
      ((!BitVec.ofBool toEa == 0#1 || !ss == 3#2) && ((!BitVec.ofBool toEa == 1#1 || !ss == 3#2) &&
        ((!BitVec.ofBool toEa == 1#1 || !ss == 0#2 || !register) &&
          ((!BitVec.ofBool toEa == 1#1 || !ss == 1#2 || !register) &&
            (!BitVec.ofBool toEa == 1#1 || !ss == 2#2 || !register))))) := by
  decide +revert

/-- The register forms of AND to the address belong to ABCD and EXG, and size code 11 to the multiplications. -/
theorem and_sizes (ss : BitVec 2) (toEa data address : Bool) :
    (!ss == 3#2 && (!toEa || (!ss == 0#2 || !data && !address) && (!ss == 1#2 || !data && !address) &&
        (!ss == 2#2 || !address))) =
      ((!BitVec.ofBool toEa == 0#1 || !ss == 3#2) && ((!BitVec.ofBool toEa == 1#1 || !ss == 3#2) &&
        ((!BitVec.ofBool toEa == 1#1 || !ss == 0#2 || !data && !address) &&
          ((!BitVec.ofBool toEa == 1#1 || !ss == 1#2 || !data) &&
            ((!BitVec.ofBool toEa == 1#1 || !ss == 1#2 || !address) &&
              (!BitVec.ofBool toEa == 1#1 || !ss == 2#2 || !address)))))) := by
  decide +revert

/-- The test of the upper six bits of a command word, field by field. -/
theorem upperSix_test {w value : Word} (rest : value.extractLsb' 0 10 = 0) :
    (w &&& 0xFC00 == value) = (field w 13 3 == field value 13 3 && field w 10 3 == field value 10 3) := by
  have parts : (field w 13 3 ++ field w 10 3 : BitVec 6) ++ w.extractLsb' 0 10 = w.extractLsb' 0 16 := by
    simp (disch := rfl) only [append_eq_extractLsb', field]
    simp
  conv => lhs; rw [← BitVec.extractLsb'_eq_self (x := w), ← parts]
  simp (disch := rfl) only [append_and_beq]
  simp [and_eq_self_of_eq_allOnes, rest, field, extractLsb'_extractLsb']

/-- FMOVECR's command words, of those whose bits 15 and 13 are clear: source code 111 from outside the registers. -/
theorem romConstant_test {w : Word} (high : w.extractLsb' 15 1 = 0) (low : w.extractLsb' 13 1 = 0) :
    (w &&& 0xFC00 == 0x5C00) = (bitOf w 14 && field w 10 3 == 7) := by
  have upper : (0#1 ++ BitVec.ofBool (bitOf w 14) : BitVec 2) ++ 0#1 = field w 13 3 := by
    simp (disch := rfl) only [field, bitOf, ofBool_getLsbD, append_eq_extractLsb']
    exact ⟨⟨high.symm, trivial⟩, low.symm⟩
  rw [upperSix_test rfl, ← upper]
  cases bitOf w 14 <;> rfl

theorem notRomConstant_eq (ea : EaField) (rm : Bool) (src : BitVec 3) :
    notRomConstant ea rm src = (!ea.mode == 0 || !ea.reg == 0 || (!rm || !src == 7)) := by
  rw [notRomConstant]
  generalize (ea.mode == 0) = mode
  generalize (ea.reg == 0) = reg
  generalize (src == 7) = extended
  decide +revert

theorem notOneRegister_eq (list : BitVec 3) :
    notOneRegister list = (!list == 4#3 && (!list == 2#3 && !list == 1#3)) := by
  decide +revert

/-- A shift's size code 11 belongs to the memory shifts and the bitfield forms, one row for each count. -/
theorem shift_sizes (cnt : BitVec 3) (ss : BitVec 2) :
    (!ss == 3) =
      ((!cnt == 4 || !ss == 3) && ((!cnt == 5 || !ss == 3) && ((!cnt == 6 || !ss == 3) && ((!cnt == 7 || !ss == 3) &&
        ((!cnt == 0 || !ss == 3) && ((!cnt == 1 || !ss == 3) && ((!cnt == 2 || !ss == 3) &&
          (!cnt == 3 || !ss == 3)))))))) := by
  decide +revert

/-- An instruction is well formed exactly where no earlier row that may take its words takes them. Each test of an
earlier row splits over the parts of the opcode word, into tests of the instruction's fields; in the groups below these
are compared with what `Instr.wf` asks of the fields. -/
theorem wf_eq_clear {i : Instr} {w2 : Word} (guard : i.row.guardHolds w2 = true)
    (built : i.row.build i.opcode w2 = i) (notNop : i = .fbccW 0 → w2 ≠ 0) : i.wf = i.clear w2 := by
  rw [Instr.clear]
  generalize own : i.shadows = tests
  generalize row : i.row = r at guard built
  cases i with (
    conv at own => lhs; whnf
    conv at row => lhs; whnf
    subst own row
    simp (disch := rfl) only [List.all_cons, List.all_nil, Tests.hold, Option.all_none, Option.all_some, Instr.opcode,
      encode, List.headD_cons, flag, eaBits, dstBits, regBits, append_and_beq])
  -- one mode, one size code or one condition belongs to other rows
  | btstDn _ ea | bchgDn _ ea | bclrDn _ ea | bsetDn _ ea | nbcd ea | moveL _ ea | moveW _ ea
  | negx ss ea | clr ss ea | neg ss ea | not ss ea | subx _ ss _ _ | addx _ ss _ _ | cmpm _ ss _ | cmp _ ss _
  | bcc cond disp | eor _ ss ea =>
    simp [and_eq_self_of_eq_allOnes]
    rfl
  -- some addresses belong to other rows
  | casW ea | casL ea =>
    simp [and_eq_self_of_eq_allOnes, Instr.wf, eaField_isNot]
  | scc _ ea | fscc ea =>
    simp [and_eq_self_of_eq_allOnes, Instr.wf, eaField_isNot, EaField.notMode, bne, Bool.and_assoc]
  | tas ea =>
    simp [and_eq_self_of_eq_allOnes, Instr.wf, eaField_isNot]
    exact Bool.and_comm _ _
  | lea an ea | pea ea =>
    simp [and_eq_self_of_eq_allOnes, Instr.wf, EaField.notMode, bne]
  | callm ea =>
    simp [and_eq_self_of_eq_allOnes, Instr.wf, EaField.notMode, bne, mode_and_six]
  | movemStore long ea =>
    cases long <;> simp [and_eq_self_of_eq_allOnes, Instr.wf, EaField.notMode, bne]
  -- size code 11 belongs to other rows, and so do some addresses for it
  | cmp2 ss ea | chk2 ss ea | moves ss ea | cmpi ss ea | addi ss ea =>
    simp [and_eq_self_of_eq_allOnes, Instr.wf, sizeGiven, bit11_clear, bne]
    exact fun given => .inl given
  | tst ss ea | addq _ ss ea | subq _ ss ea =>
    simp [and_eq_self_of_eq_allOnes, Instr.wf, sizeGiven, bne]
    generalize (ss == 3#2) = memory
    cases memory <;> simp
  | subi ss ea =>
    simp [and_eq_self_of_eq_allOnes, Instr.wf, sizeGiven, bit11_clear, bne]
  -- size codes and addresses together
  | eori ss ea =>
    simp [and_eq_self_of_eq_allOnes, Instr.wf, sizeGiven, eaField_isNot, bne]
    exact immediate_sizes ss _
  | ori ss ea | andi ss ea =>
    simp [and_eq_self_of_eq_allOnes, Instr.wf, sizeGiven, eaField_isNot, bit11_clear, bne]
    exact immediate_sizes ss _
  | sub _ toEa ss ea | add _ toEa ss ea =>
    cases toEa <;>
      simp [and_eq_self_of_eq_allOnes, Instr.wf, sizeGiven, EaField.isRegister, mode_and_six, bne]
  | or _ toEa ss ea =>
    simp [and_eq_self_of_eq_allOnes, Instr.wf, sizeGiven, EaField.isRegister, ← mode_and_six, bne]
    exact or_sizes ss toEa _
  | and _ toEa ss ea =>
    simp [and_eq_self_of_eq_allOnes, Instr.wf, sizeGiven, exgOrAbcd, EaField.isRegister, mode_and_six, bne]
    exact and_sizes ss toEa _ _
  | asrDy cnt ss _ _ | lsrDy cnt ss _ _ | roxrDy cnt ss _ _ | rorDy cnt ss _ _
  | aslDy cnt ss _ _ | lslDy cnt ss _ _ | roxlDy cnt ss _ _ | rolDy cnt ss _ _ =>
    simp [and_eq_self_of_eq_allOnes]
    exact shift_sizes cnt ss
  -- FNOP, the moves of one control register and FMOVECR are told by the second word
  | fbccW cond =>
    have other : (!cond == 0 || !w2 == 0) = true := by
      by_cases zero : cond = 0#6
      · simpa [zero] using notNop (zero ▸ rfl)
      · simp [zero]
    simp [and_eq_self_of_eq_allOnes]
    exact other.symm
  | fmovemToCtl ea list | fmovemFromCtl ea list =>
    injection built with _ list_eq
    have mode := extractLsb'_of_masked (lo := 13) (n := 3) guard rfl
    rw [upperSix_test rfl, upperSix_test rfl, upperSix_test rfl, list_eq, field, mode]
    simp [and_eq_self_of_eq_allOnes, field]
    exact notOneRegister_eq list
  | fmove ea rm src | fint ea rm src | fsinh ea rm src | fintrz ea rm src | fsqrt ea rm src | flognp1 ea rm src
  | fetoxm1 ea rm src | ftanh ea rm src | fatan ea rm src | fasin ea rm src | fatanh ea rm src | fsin ea rm src
  | ftan ea rm src | fetox ea rm src | ftwotox ea rm src | ftentox ea rm src | flogn ea rm src | flog10 ea rm src
  | flog2 ea rm src | fabs ea rm src | fcosh ea rm src | fneg ea rm src | facos ea rm src | fcos ea rm src
  | fgetexp ea rm src | fgetman ea rm src | fdiv ea rm src | fmod ea rm src | fadd ea rm src | fmul ea rm src
  | fsgldiv ea rm src | frem ea rm src | fscale ea rm src | fsglmul ea rm src | fsub ea rm src | fsincos ea rm src
  | fcmp ea rm src | ftst ea rm src | fsmove ea rm src | fssqrt ea rm src | fdmove ea rm src | fdsqrt ea rm src
  | fsabs ea rm src | fsneg ea rm src | fdabs ea rm src | fdneg ea rm src | fsdiv ea rm src | fsadd ea rm src
  | fsmul ea rm src | fddiv ea rm src | fdadd ea rm src | fdmul ea rm src | fssub ea rm src | fdsub ea rm src =>
    injection built with _ rm_eq src_eq
    rw [romConstant_test (extractLsb'_of_masked guard rfl) (extractLsb'_of_masked guard rfl), rm_eq, src_eq]
    simp [and_eq_self_of_eq_allOnes]
    exact notRomConstant_eq ea rm src
  -- no earlier row may take the words
  | _ => rfl

end Sys2Proof

/-! Decoding and encoding agree. -/
namespace Sys2Proof
open Sys2Proof.Machine

theorem clear_eq_true_iff {i : Instr} {w2 : Word} :
    i.clear w2 = true ↔ ∀ t ∈ i.shadows, t.hold i.opcode w2 = false := by
  simp [Instr.clear]

/-- Where its own row takes its words and builds it, an instruction is what they decode to exactly where it is well
formed. Only FNOP's pair is not told from FBcc.W's by well-formedness (49_fpu_control.md R292). -/
theorem decodeWords_opcode {i : Instr} {w2 : Word} (takes : i.row.takes i.opcode w2 = true)
    (built : i.row.build i.opcode w2 = i) (notNop : i = .fbccW 0 → w2 ≠ 0) :
    decodeWords i.opcode w2 = some i ↔ i.wf = true := by
  have guard : i.row.guardHolds w2 = true := (Bool.and_eq_true_iff.mp takes).2
  rw [decodeWords_eq_some_iff, earlier_take_iff takes, wf_eq_clear guard built notNop, clear_eq_true_iff]
  exact ⟨fun h => h.2.2, fun h => ⟨takes, built, h⟩⟩

/-- A well-formed instruction decodes back from its opcode word and its second word. -/
theorem decodeWords_second {i : Instr} {x : Word} (wf : i.wf = true) (notNop : i = .fbccW 0 → x ≠ 0) :
    decodeWords i.opcode (i.second x) = some i := by
  refine (decodeWords_opcode (row_takes_encode i x) (row_build_encode i x) ?_).mpr wf
  rintro rfl
  exact notNop rfl

/-- Settles O53: the instruction's own row takes its words, and well-formedness keeps every earlier row from them. -/
theorem decodeOfEncode : Obligations.DecodeOfEncode := by
  intro i x wf notNop
  have back := decodeWords_second wf notNop
  rcases encode_eq i x with ⟨one, second⟩ | two
  · rw [one]
    exact second ▸ back
  · rw [two]
    exact back

/-- Settles O54: the dispatcher takes the instruction's own row, whose constants and fields fix the opcode word, and
no earlier row, which is what well-formedness says. -/
theorem decodedWordsAreWellFormed : Obligations.DecodedWordsAreWellFormed := by
  intro w1 w2 i decoded
  obtain ⟨takes, built, -⟩ := decodeWords_eq_some_iff.mp decoded
  obtain rfl : i.opcode = w1 := built ▸ opcode_row_build i w2 (Bool.and_eq_true_iff.mp takes).1
  have wf : i.wf = true := by
    by_cases nop : i = .fbccW 0
    · exact nop ▸ rfl
    · exact (decodeWords_opcode takes built fun e => absurd e nop).mp decoded
  refine ⟨wf, ?_, fun v second => ?_⟩
  · rcases encode_eq i 0 with ⟨one, -⟩ | two
    · rw [one]; rfl
    · rw [two]; rfl
  · have same : i.second 0 = v := by
      rw [Instr.second, List.getD_eq_getElem?_getD, second, Option.getD_some]
    refine same ▸ decodeWords_second wf ?_
    rintro rfl
    cases second

end Sys2Proof

/-! The resolver, the extension words and the auxiliary field decoders (30_encoding.md sections 4 to 6). -/
namespace Sys2Proof.Machine

/-! The end of a call. -/

/-- Settles O7: the two ends of `emit`. -/
theorem emitEndsTheCall : Obligations.EmitEndsTheCall :=
  fun _ _ _ _ _ _ => ⟨fun _ => emit_of_some, emit_of_none⟩

/-! The resolver. -/

/-- Settles O8: each of the five modes is a branch of the resolver that reads no word. -/
theorem resolverRegisterModes : Obligations.ResolverRegisterModes :=
  fun _ _ _ => ⟨rfl, rfl, rfl, rfl, rfl⟩

/-- Settles O9: each of the four is a branch of the resolver, with one pull. -/
theorem resolverWordModes : Obligations.ResolverWordModes :=
  fun _ _ _ => ⟨rfl, rfl, rfl, rfl⟩

/-- Settles O10: both are branches of the resolver, with one extended address. -/
theorem resolverExtendedModes : Obligations.ResolverExtendedModes :=
  fun _ _ _ => ⟨rfl, rfl⟩

theorem readImm_of_other {size : Nat} (byte : size ≠ 1) (word : size ≠ 2) (long : size ≠ 4) (s : State) :
    readImm size s = (.implied, recordError .badSize s) := by
  simp [readImm, byte, word, long]

/-- Settles O11: the three sizes of an immediate, and the end that every other size has. -/
theorem immediateOperands : Obligations.ImmediateOperands :=
  fun _ s => ⟨rfl, rfl, rfl, rfl, fun byte word long => readImm_of_other byte word long s⟩

/-- Settles O12: the registers 0 to 4 are the ones mode 7 has a branch for. -/
theorem illegalRegisterEncodings : Obligations.IllegalRegisterEncodings := by
  intro r size s high
  have other : r ≠ 0 ∧ r ≠ 1 ∧ r ≠ 2 ∧ r ≠ 3 ∧ r ≠ 4 := by
    refine ⟨?_, ?_, ?_, ?_, ?_⟩ <;> rintro rfl <;> exact absurd high (by decide)
  obtain ⟨h0, h1, h2, h3, h4⟩ := other
  show resolveMode7 r size s = _
  rw [resolveMode7, if_neg h0, if_neg h1, if_neg h2, if_neg h3, if_neg h4]

/-! The words ahead. -/

theorem skipWords_skipWords (m n : Nat) (s : State) : skipWords n (skipWords m s) = skipWords (m + n) s := by
  simp [skipWords, Nat.mul_add, Nat.add_assoc]

theorem wordAhead_skipWords (n k : Nat) (s : State) : (skipWords n s).wordAhead k = s.wordAhead (n + k) := by
  simp [State.wordAhead, Nat.mul_add, Nat.add_assoc]

theorem pull16_of_wordAhead {s : State} {w : Word} (h : s.wordAhead 0 = some w) : pull16 s = (w, skipWords 1 s) :=
  pull16_of_some h

/-- These words are ahead of the position. -/
def State.HasAhead (s : State) (words : List Word) : Prop := ∀ k w, words[k]? = some w → s.wordAhead k = some w

theorem State.HasAhead.left {s : State} {xs ys : List Word} (h : s.HasAhead (xs ++ ys)) : s.HasAhead xs := by
  intro k w at_k
  obtain ⟨inside, -⟩ := List.getElem?_eq_some_iff.mp at_k
  exact h k w ((List.getElem?_append_left inside).trans at_k)

theorem State.HasAhead.right {s : State} {xs ys : List Word} (h : s.HasAhead (xs ++ ys)) :
    (skipWords xs.length s).HasAhead ys := by
  intro k w at_k
  rw [wordAhead_skipWords]
  exact h _ w (by rwa [List.getElem?_append_right (Nat.le_add_right _ _), Nat.add_sub_cancel_left])

theorem State.HasAhead.head {s : State} {w : Word} {ws : List Word} (h : s.HasAhead (w :: ws)) :
    s.wordAhead 0 = some w := h 0 w rfl

theorem State.HasAhead.tail {s : State} {w : Word} {ws : List Word} (h : s.HasAhead (w :: ws)) :
    (skipWords 1 s).HasAhead ws := State.HasAhead.right (xs := [w]) h

theorem pull32_of_hasAhead {s : State} {v : Long} (h : s.HasAhead (wordsOfLong v)) :
    pull32 s = (v, skipWords 2 s) := by
  have low : s.wordAhead 1 = some (v.extractLsb' 0 16) := h 1 _ rfl
  have parts : v.extractLsb' 16 16 ++ v.extractLsb' 0 16 = v := BitVec.extractLsb'_append_extractLsb'
  rw [pull32_of_some h.head low, parts]

/-! The brief extension word. -/

/-- Settles O13: bit 8 of the brief word is clear, and its other fields are the index and the displacement, whatever
bit 11 is. -/
theorem briefExtensionWord : Obligations.BriefExtensionWord := by
  intro x b wl s bit11 ahead
  have fields : bitOf (briefExt x b ||| wl) 8 = false ∧ indexerOf (briefExt x b ||| wl) = x ∧
      field (briefExt x b ||| wl) 0 8 = b := by
    obtain ⟨isAddr, num, scale⟩ := x
    rcases bit11 with rfl | rfl <;>
      simp (disch := rfl) [briefExt, bitOf, indexerOf, field, flag, BitVec.extractLsb'_or, extractLsb'_append,
        getLsbD_append, -BitVec.getLsbD_eq_getElem]
  obtain ⟨brief, index, disp⟩ := fields
  simp [extWord, pull16_of_wordAhead ahead, brief, briefDisp, index, disp]

/-! The full extension word. -/

/-- The fields of the first word that the encoder writes for a displacement record. -/
structure FullExtFields (bs : Bool) (d : Displacement) (ext : Word) : Prop where
  full : bitOf ext 8 = true
  baseSuppress : bitOf ext 7 = bs
  indexSuppress : bitOf ext 6 = d.indexer.isNone
  baseSize : field ext 4 2 = 3
  code : field ext 0 3 = indirectionCode d.indirection
  index : ∀ x, d.indexer = some x → indexerOf ext = x

theorem fullExt_fields (bs : Bool) (d : Displacement) : FullExtFields bs d ((fullExt bs d).headD 0) := by
  obtain ⟨base, outer, _ | ⟨isAddr, num, scale⟩, indirection⟩ := d <;>
    constructor <;>
    simp (disch := rfl) [fullExt, bitOf, indexerOf, field, flag, extractLsb'_append, getLsbD_append,
      -BitVec.getLsbD_eq_getElem]

/-- A record's indirection is the one its code selects, with a long outer displacement where there is any
(30_encoding.md R60). -/
theorem indirectionOf_indirectionCode {d : Displacement} (wf : d.wf = true) :
    indirectionOf d.indexer.isNone (indirectionCode d.indirection) =
      some (d.indirection, if d.indirection.isNone then 1 else 3) := by
  obtain ⟨base, outer, _ | x, _ | indirection⟩ := d
  · rfl
  · obtain rfl : indirection = .indirect := eq_of_beq wf
    rfl
  · rfl
  · cases indirection with
    | indirect => cases wf
    | preIndexed => rfl
    | postIndexed => rfl

theorem outer_of_indirection_none {d : Displacement} (wf : d.wf = true) (none : d.indirection = none) :
    d.outer = 0 := by
  obtain ⟨base, outer, index, indirection⟩ := d
  obtain rfl : indirection = .none := none
  cases index <;> exact eq_of_beq wf

/-- The words the encoder writes after the extension word (30_encoding.md R59, R61). -/
def dispWords (d : Displacement) : List Word :=
  wordsOfLong d.base ++ if d.indirection.isNone then [] else wordsOfLong d.outer

theorem fullExt_eq (bs : Bool) (d : Displacement) : fullExt bs d = (fullExt bs d).headD 0 :: dispWords d := rfl

/-- The words after the extension word are read back as the base and the outer displacement. -/
theorem fullDisp_of_hasAhead {bs : Bool} {d : Displacement} {ext : Word} {s : State} (wf : d.wf = true)
    (fields : FullExtFields bs d ext) (h : s.HasAhead (dispWords d)) :
    fullDisp ext s = (d, skipWords (dispWords d).length s) := by
  have readBase : pullBase ext s = (d.base, skipWords 2 s) := by
    simp [pullBase, pullSized, fields.baseSize, pull32_of_hasAhead h.left]
  have readOuter : pullOuter ext (skipWords 2 s) = ((d.indirection, d.outer), skipWords (dispWords d).length s) := by
    rw [pullOuter, fields.indexSuppress, fields.code, indirectionOf_indirectionCode wf]
    have outer : (skipWords 2 s).HasAhead (if d.indirection.isNone then [] else wordsOfLong d.outer) := h.right
    unfold dispWords
    cases none : d.indirection with
    | none => simp [pullSized, outer_of_indirection_none wf none, wordsOfLong]
    | some kind =>
      rw [none] at outer
      simp [pullSized, pull32_of_hasAhead outer, skipWords_skipWords, wordsOfLong]
  have index : (if bitOf ext 6 then none else some (indexerOf ext)) = d.indexer := by
    rw [fields.indexSuppress]
    cases index : d.indexer with
    | none => rfl
    | some x => rw [fields.index x index]; rfl
  rw [fullDisp, readBase]
  dsimp only
  rw [readOuter, index]

/-- Settles O14: each field of the first word, then the base displacement's two words, then the outer one's. -/
theorem fullExtensionWordRoundTrip : Obligations.FullExtensionWordRoundTrip := by
  intro bs d s wf ahead
  have fields := fullExt_fields bs d
  have words : s.HasAhead ((fullExt bs d).headD 0 :: dispWords d) := ahead
  rw [fullExt_eq, List.length_cons, Nat.add_comm]
  generalize (fullExt bs d).headD 0 = ext at fields words
  simp [extWord, pull16_of_wordAhead words.head, fields.full, fields.baseSuppress,
    fullDisp_of_hasAhead wf fields words.tail, skipWords_skipWords]

/-- Settles O15: the four codes are the branches of the read, and the two flags are bits of the first word. -/
theorem baseDisplacementSizes : Obligations.BaseDisplacementSizes := by
  intro ext s
  refine ⟨fun h => ?_, fun h => ?_, fun h => ?_, fun h => ?_, fun ahead full => ?_⟩
  · simp [pullBase, h]
  · simp [pullBase, pullSized, h]
  · simp [pullBase, pullSized, pullDisp16, h]
  · simp [pullBase, pullSized, h]
  · simp [extWord, pull16_of_wordAhead ahead, full, fullDisp]

/-- Settles O16: the sixteen rows by evaluation; then the two ends of the outer read. -/
theorem indirectionCodes : Obligations.IndirectionCodes := by
  refine ⟨by decide, by decide, fun ext s => ⟨fun h => ?_, fun k h => ?_, fun k h => ?_, fun k h => ?_⟩⟩
  all_goals simp [pullOuter, pullSized, pullDisp16, h]

/-- Settles O17: the tables by evaluation. -/
theorem quickAndSizeFields : Obligations.QuickAndSizeFields :=
  ⟨by decide, rfl, rfl, rfl, rfl⟩

/-- Settles O18: the tables by evaluation. -/
theorem conditionTables : Obligations.ConditionTables :=
  ⟨by decide, by decide, by decide⟩

/-- Settles O19: the three cases of a field, and the four fields of the concatenation. -/
theorem bitfieldFields : Obligations.BitfieldFields := by
  refine ⟨fun v => ⟨?_, ?_⟩, fun r dof dw o w => ?_⟩
  · simp [bfData, BitVec.setWidth_eq_extractLsb']
  · rw [bfData, if_neg Bool.false_ne_true, apply_ite BitfieldData.static]
  · simp (disch := rfl) [bfExtra, bitOf, field, extractLsb'_append, getLsbD_append, -BitVec.getLsbD_eq_getElem]

/-- Settles O21: both reversals are the library's reversal of a bit vector; the three list forms are its branches. -/
theorem registerListOrder : Obligations.RegisterListOrder := by
  refine ⟨fun m i h => ?_, fun m i h => ?_, fun m => BitVec.reverse_reverse_eq, fun m => BitVec.reverse_reverse_eq,
    fun mode l => ⟨fun h => ?_, ?_, ?_⟩⟩
  · rw [reverse16, BitVec.getLsbD_reverse, BitVec.getMsbD, decide_eq_true h, Bool.true_and]
  · rw [reverse8, BitVec.getLsbD_reverse, BitVec.getMsbD, decide_eq_true h, Bool.true_and]
  · rw [fpList, if_pos h]
  · rintro rfl
    rfl
  · rintro rfl
    rfl

end Sys2Proof.Machine

/-! What a step makes of the decoder's answer, and the forms that end in a refusal (30_encoding.md R42, R46,
60_exceptions.md R299, R300). -/
namespace Sys2Proof.Machine

/-! The ends of a call where no error was recorded before. -/

theorem raiseError_of_none {k : ErrorKind} {s : State} (h : s.err = none) : raiseError k s = failed k s := by
  rw [raiseError_eq, h]
  rfl

/-- Settles O42: every one of the forms asks its size function first, which has no size for code 11. -/
theorem sizeCode11IsRefused : Obligations.SizeCode11IsRefused := by
  intro ea n m b rn s none i mem
  have ends : raiseError .notImplemented s = failed .notImplemented s := raiseError_of_none none
  fin_cases mem <;> exact ⟨ends, rfl⟩

/-- Settles O43: source code 111 has no format and the empty list no register, and both are asked for right after the
command word. -/
theorem fpuReservedForms : Obligations.FpuReservedForms := by
  intro ea s w none ahead
  have ends : raiseError .reserved (pull16 s).2 = failed .reserved (skipWords 1 s) := by
    rw [pull16_of_wordAhead ahead]
    exact raiseError_of_none none
  refine ⟨fun i mem d => ?_, fun _ _ => ends, ends, ends, ends⟩
  fin_cases mem <;> exact ends

/-! A call in which an error is recorded before the builder starts. -/

/-- The dispatcher's call ends from the state after its scan, whichever row it takes. -/
theorem dispatch_ends (w1 : Word) (s : State) : Ends 10 (scanState w1 s) (dispatch w1 s) := by
  cases taken : decodeWords w1 (peekWord 0 s).1 with
  | none =>
    rw [dispatch_of_none taken]
    exact (raiseError_ends .notImplemented _).widen
  | some i =>
    rw [dispatch_of_some taken]
    refine exec_ends i _ fun isFnop => ?_
    rw [scanState_of_peeks (peeksSecond_of_decodeWords_fnop (isFnop ▸ taken))]
    exact peekWord_peekWord 0 s

/-- An error recorded before a builder starts is its result (10_state.md R6). -/
theorem Ends.of_err {n : Nat} {s : State} {r : StepResult} {k : ErrorKind} (h : Ends n s r) (e : s.err = some k) :
    ∃ t, r = .next t ∧ t.err = some k ∧ t.result = some (.err k) ∧ t.buf = s.buf := by
  obtain ⟨t, c, adv, rfl, onErr, -⟩ := h
  have kept : t.err = some k := adv.sticky k e
  exact ⟨_, rfl, kept, congrArg some (onErr k kept), adv.buf⟩

/-! The decoder's answer on the bytes of the buffer. -/

theorem peekWord_fst (k : Nat) (s : State) : (peekWord k s).1 = (s.wordAhead k).getD 0 := by
  cases ahead : s.wordAhead k with
  | none => rw [peekWord_of_none ahead]; rfl
  | some w => rw [peekWord_of_some ahead]; rfl

/-- The scan records nothing where the word it peeks at is there. -/
theorem scanState_of_present {w1 : Word} {s : State} (h : peeksSecond w1 = true → (s.wordAhead 0).isSome = true) :
    scanState w1 s = s := by
  cases peek : peeksSecond w1 with
  | false => exact scanState_of_not_peeks peek
  | true =>
    obtain ⟨w, ahead⟩ := Option.isSome_iff_exists.mp (h peek)
    rw [scanState_of_peeks peek, peekWord_of_some ahead]

theorem scanState_of_missing {w1 : Word} {s : State} (peek : peeksSecond w1 = true) (h : s.wordAhead 0 = none) :
    scanState w1 s = recordError .outOfSpace s := by
  rw [scanState_of_peeks peek, peekWord_of_none h]

/-- The cursor after the opcode word of a call on the buffer of `s`. -/
def afterOpcode (s : State) : State := skipWords 1 (freshCursor s)

@[simp] theorem afterOpcode_err (s : State) : (afterOpcode s).err = none := rfl
@[simp] theorem afterOpcode_buf (s : State) : (afterOpcode s).buf = s.buf := rfl

theorem afterOpcode_wordAhead {s : State} (wf : s.buf.wf = true) :
    (afterOpcode s).wordAhead 0 = wordAt s.buf.bytes 2 := Memory.word?_of_wf wf 2

theorem step_of_opcode {s : State} {w1 : Word} (wf : s.buf.wf = true) (h : wordAt s.buf.bytes 0 = some w1) :
    step s = dispatch w1 (afterOpcode s) := by
  rw [step_eq_dispatch, reading, pull16_of_some ((Memory.word?_of_wf wf 0).trans h)]
  rfl

/-- A call without an opcode word goes on with an error recorded. -/
theorem step_of_no_opcode {s : State} (wf : s.buf.wf = true) (h : wordAt s.buf.bytes 0 = none) :
    step s = dispatch 0 (skipWords 1 (recordError .outOfSpace (freshCursor s))) := by
  rw [step_eq_dispatch, reading, pull16_of_none ((Memory.word?_of_wf wf 0).trans h)]

/-- The decoder on bytes that hold an opcode word. -/
theorem decode_of_opcode {bytes : List Byte} {w1 : Word} (h : wordAt bytes 0 = some w1) :
    decode bytes = if peeksSecond w1 && (wordAt bytes 2).isNone then .error .outOfSpace
      else (decodeWords w1 ((wordAt bytes 2).getD 0)).elim (.error .notImplemented) .ok := by
  rw [decode, h]
  dsimp only
  cases decodeWords w1 ((wordAt bytes 2).getD 0) <;> rfl

/-- The scan of a call decodes what the decoder decodes. -/
theorem decodeWords_afterOpcode {s : State} (wf : s.buf.wf = true) (w1 : Word) :
    decodeWords w1 (peekWord 0 (afterOpcode s)).1 = decodeWords w1 ((wordAt s.buf.bytes 2).getD 0) := by
  rw [peekWord_fst, afterOpcode_wordAhead wf]

/-- The three answers of the decoder on bytes that hold an opcode word, and what the dispatcher does for each. -/
theorem decode_cases {s : State} {w1 : Word} (wf : s.buf.wf = true) (h : wordAt s.buf.bytes 0 = some w1) :
    (decode s.buf.bytes = .error .outOfSpace ∧
      scanState w1 (afterOpcode s) = recordError .outOfSpace (afterOpcode s)) ∨
    (decode s.buf.bytes = .error .notImplemented ∧ step s = failed .notImplemented (afterOpcode s)) ∨
    ∃ i, decode s.buf.bytes = .ok i ∧ step s = exec i (afterOpcode s) := by
  rw [decode_of_opcode h, step_of_opcode wf h]
  by_cases missing : peeksSecond w1 = true ∧ wordAt s.buf.bytes 2 = none
  · obtain ⟨peek, missing⟩ := missing
    exact .inl ⟨by simp [peek, missing], scanState_of_missing peek ((afterOpcode_wordAhead wf).trans missing)⟩
  · have present (peek : peeksSecond w1 = true) : ((afterOpcode s).wordAhead 0).isSome = true := by
      rw [afterOpcode_wordAhead wf, ← Option.isNone_eq_false_iff, ← Bool.not_eq_true, Option.isNone_iff_eq_none]
      exact fun absent => missing ⟨peek, absent⟩
    have scanned := scanState_of_present present
    have found : ¬ (peeksSecond w1 && (wordAt s.buf.bytes 2).isNone) = true := by
      simpa using missing
    rw [if_neg found]
    cases taken : decodeWords w1 ((wordAt s.buf.bytes 2).getD 0) with
    | none =>
      refine .inr (.inl ⟨rfl, ?_⟩)
      rw [dispatch_of_none ((decodeWords_afterOpcode wf w1).trans taken), scanned]
      exact raiseError_of_none rfl
    | some i =>
      refine .inr (.inr ⟨i, rfl, ?_⟩)
      rw [dispatch_of_some ((decodeWords_afterOpcode wf w1).trans taken), scanned]

/-- Settles O48: the dispatcher scans with the words the decoder scans with, and its peek finds its word. -/
theorem stepRunsTheDecodedInstruction : Obligations.StepRunsTheDecodedInstruction := by
  intro s i wf decoded
  cases h : wordAt s.buf.bytes 0 with
  | none =>
    rw [decode, h] at decoded
    cases decoded
  | some w1 =>
    rcases decode_cases wf h with ⟨refused, -⟩ | ⟨refused, -⟩ | ⟨j, ok, run⟩
    · cases refused.symm.trans decoded
    · cases refused.symm.trans decoded
    · cases ok.symm.trans decoded
      exact run

/-- Settles O49: a missing word is recorded before the builder starts, so it is the result whatever the dispatcher
takes; a word pair that no row takes is the dispatcher's own refusal. -/
theorem stepReportsTheRefusal : Obligations.StepReportsTheRefusal := by
  intro s k wf decoded
  cases h : wordAt s.buf.bytes 0 with
  | none =>
    rw [decode, h] at decoded
    cases decoded
    rw [step_of_no_opcode wf h]
    have ends := (dispatch_ends 0 (skipWords 1 (recordError .outOfSpace (freshCursor s)))).after
      (scanState_advances 0 _)
    simpa using ends.of_err (k := .outOfSpace) (by simp)
  | some w1 =>
    rcases decode_cases wf h with ⟨refused, scanned⟩ | ⟨refused, run⟩ | ⟨i, ok, -⟩
    · cases refused.symm.trans decoded
      have ends := dispatch_ends w1 (afterOpcode s)
      rw [scanned] at ends
      rw [step_of_opcode wf h]
      simpa using ends.of_err (k := .outOfSpace) (by simp)
    · cases refused.symm.trans decoded
      exact ⟨_, run, rfl, rfl, rfl⟩
    · cases ok.symm.trans decoded

/-- Settles O52: each word's scan by evaluation. -/
theorem sampleWordsDecode : Obligations.SampleWordsDecode := by
  rfl

end Sys2Proof.Machine

/-! A call depends on its first 22 bytes alone, whether it ends `Ok` or `Err` (30_encoding.md R77,
70_reset_and_hazards.md R317): every builder answers the same on every buffer with the same words ahead, as many as it
reads at most. -/
namespace Sys2Proof.Machine

/-- The buffer `m` holds the bytes of the cursor's own, up to `n` words ahead of the position. -/
def State.SameAhead (s : State) (m : Memory) (n : Nat) : Prop := s.buf.AgreeBelow (s.pos + 2 * n) m

/-- The end of a call, over another buffer. -/
def endWithBuf (m : Memory) : StepResult → StepResult
  | .next t => .next (t.withBuf m)
  | r => r

variable {s t : State} {m : Memory} {n k : Nat}

theorem State.SameAhead.mono (h : s.SameAhead m n) (le : k ≤ n) : s.SameAhead m k :=
  fun off below => h off (by omega)

/-- After `k` words were read, `k` words fewer are the same ahead. -/
theorem State.SameAhead.after (h : s.SameAhead m (n + k)) (adv : Advances k s t) : t.SameAhead m n := by
  obtain ⟨j, le, pos⟩ := adv.pos
  intro off below
  rw [adv.buf]
  exact h off (by omega)

theorem State.SameAhead.wordAhead (h : s.SameAhead m (k + 1)) : (s.withBuf m).wordAhead k = s.wordAhead k :=
  Memory.AgreeBelow.word? h (by rw [State.withBuf_pos]; omega)

/-! The cursor over another buffer. -/

@[simp] theorem State.withBuf_err : (s.withBuf m).err = s.err := rfl

theorem recordError_withBuf (e : ErrorKind) (s : State) :
    recordError e (s.withBuf m) = (recordError e s).withBuf m := by
  cases h : s.err with
  | none => rw [recordError_of_none h, recordError_of_none (s := s.withBuf m) h]; rfl
  | some k => rw [recordError_of_some h, recordError_of_some (s := s.withBuf m) h]

theorem peekWord_withBuf (h : s.SameAhead m (k + 1)) :
    peekWord k (s.withBuf m) = ((peekWord k s).1, (peekWord k s).2.withBuf m) := by
  cases ahead : s.wordAhead k with
  | none => rw [peekWord_of_none ahead, peekWord_of_none (h.wordAhead.trans ahead), recordError_withBuf]
  | some w => rw [peekWord_of_some ahead, peekWord_of_some (h.wordAhead.trans ahead)]

theorem pull16_withBuf (h : s.SameAhead m 1) :
    pull16 (s.withBuf m) = ((pull16 s).1, (pull16 s).2.withBuf m) := by
  simp only [pull16, peekWord_withBuf h]
  rfl

theorem State.SameAhead.pull16 (h : s.SameAhead m (n + 1)) : (pull16 s).2.SameAhead m n := h.after (pull16_advances s)

theorem pull32_withBuf (h : s.SameAhead m 2) :
    pull32 (s.withBuf m) = ((pull32 s).1, (pull32 s).2.withBuf m) := by
  simp only [pull32, pull16_withBuf (h.mono one_le_two), pull16_withBuf h.pull16]

theorem pullDisp16_withBuf (h : s.SameAhead m 1) :
    pullDisp16 (s.withBuf m) = ((pullDisp16 s).1, (pullDisp16 s).2.withBuf m) := by
  simp only [pullDisp16, pull16_withBuf h]

/-! The resolver over another buffer. -/

theorem readImm_withBuf (size : Nat) (h : s.SameAhead m 2) :
    readImm size (s.withBuf m) = ((readImm size s).1, (readImm size s).2.withBuf m) := by
  simp only [readImm, pull16_withBuf (h.mono one_le_two), pull32_withBuf h, recordError_withBuf]
  split_ifs <;> rfl

theorem pullSized_withBuf (code : BitVec 2) (h : s.SameAhead m 2) :
    pullSized code (s.withBuf m) = ((pullSized code s).1, (pullSized code s).2.withBuf m) := by
  simp only [pullSized, pullDisp16_withBuf (h.mono one_le_two), pull32_withBuf h]
  split_ifs <;> rfl

theorem pullBase_withBuf (ext : Word) (h : s.SameAhead m 2) :
    pullBase ext (s.withBuf m) = ((pullBase ext s).1, (pullBase ext s).2.withBuf m) := by
  simp only [pullBase, pullSized_withBuf _ h, recordError_withBuf]
  split_ifs <;> rfl

theorem pullOuter_withBuf (ext : Word) (h : s.SameAhead m 2) :
    pullOuter ext (s.withBuf m) = ((pullOuter ext s).1, (pullOuter ext s).2.withBuf m) := by
  unfold pullOuter
  cases indirectionOf (bitOf ext 6) (field ext 0 3) with
  | none => simp only [recordError_withBuf]
  | some code => simp only [pullSized_withBuf _ h]

theorem fullDisp_withBuf (ext : Word) (h : s.SameAhead m 4) :
    fullDisp ext (s.withBuf m) = ((fullDisp ext s).1, (fullDisp ext s).2.withBuf m) := by
  have outer : (pullBase ext s).2.SameAhead m 2 := h.after (pullBase_advances ext s)
  simp only [fullDisp, pullBase_withBuf ext (h.mono (by decide)), pullOuter_withBuf ext outer]

theorem extWord_withBuf (h : s.SameAhead m 5) :
    extWord (s.withBuf m) = ((extWord s).1, (extWord s).2.withBuf m) := by
  simp only [extWord, pull16_withBuf (h.mono (by decide)), fullDisp_withBuf _ h.pull16]
  split_ifs <;> rfl

theorem branchDisp_withBuf (disp : Byte) (h : s.SameAhead m 2) :
    branchDisp disp (s.withBuf m) = ((branchDisp disp s).1, (branchDisp disp s).2.withBuf m) := by
  simp only [branchDisp, pullDisp16_withBuf (h.mono one_le_two), pull32_withBuf h]
  split_ifs <;> rfl

theorem resolveMode7_withBuf (reg : RegNum) (size : Nat) (h : s.SameAhead m 5) :
    resolveMode7 reg size (s.withBuf m) = ((resolveMode7 reg size s).1, (resolveMode7 reg size s).2.withBuf m) := by
  have one : s.SameAhead m 1 := h.mono (by decide)
  have two : s.SameAhead m 2 := h.mono (by decide)
  simp only [resolveMode7, pull16_withBuf one, pull32_withBuf two, pullDisp16_withBuf one, extWord_withBuf h,
    readImm_withBuf size two, recordError_withBuf, State.withBuf_pos]
  split_ifs <;> rfl

theorem resolveEa_withBuf (ea : EaField) (size : Nat) (h : s.SameAhead m 5) :
    resolveEa ea size (s.withBuf m) = ((resolveEa ea size s).1, (resolveEa ea size s).2.withBuf m) := by
  simp only [resolveEa, pullDisp16_withBuf (h.mono (by decide)), extWord_withBuf h, resolveMode7_withBuf _ size h]
  split_ifs <;> rfl

/-! The end of a call over another buffer. -/

theorem emit_withBuf (op : Operation) (size : Nat) (o0 o1 : Option Operand) (x : Option Extra) (s : State) :
    emit op size o0 o1 x (s.withBuf m) = endWithBuf m (emit op size o0 o1 x s) := rfl

theorem raiseError_withBuf (e : ErrorKind) (s : State) :
    raiseError e (s.withBuf m) = endWithBuf m (raiseError e s) := by
  rw [raiseError_eq, raiseError_eq]
  rfl

theorem withSize_withBuf {size : Option Nat} {k k' : Nat → StepResult} (same : ∀ n, k' n = endWithBuf m (k n)) :
    withSize size (s.withBuf m) k' = endWithBuf m (withSize size s k) := by
  cases size with
  | none => exact raiseError_withBuf _ _
  | some n => exact same n

end Sys2Proof.Machine

/-! Every builder's shape, then every meaning, over another buffer with the same words ahead. -/
namespace Sys2Proof.Machine

variable {s : State} {m : Memory}

/-! One effective address. -/

theorem emitEa_withBuf (op : Operation) (size hint : Nat) (ea : EaField) (x : Option Extra) (h : s.SameAhead m 5) :
    emitEa op size hint ea x (s.withBuf m) = endWithBuf m (emitEa op size hint ea x s) := by
  simp only [emitEa, resolveEa_withBuf ea hint h, emit_withBuf]

theorem emitEaTo_withBuf (op : Operation) (size : Nat) (ea : EaField) (o : Operand) (h : s.SameAhead m 5) :
    emitEaTo op size ea o (s.withBuf m) = endWithBuf m (emitEaTo op size ea o s) := by
  simp only [emitEaTo, resolveEa_withBuf ea size h, emit_withBuf]

theorem emitToEa_withBuf (op : Operation) (size : Nat) (o : Operand) (ea : EaField) (h : s.SameAhead m 5) :
    emitToEa op size o ea (s.withBuf m) = endWithBuf m (emitToEa op size o ea s) := by
  simp only [emitToEa, resolveEa_withBuf ea size h, emit_withBuf]

theorem emitSizedEa_withBuf (op : Operation) (ss : BitVec 2) (ea : EaField) (h : s.SameAhead m 5) :
    emitSizedEa op ss ea (s.withBuf m) = endWithBuf m (emitSizedEa op ss ea s) :=
  withSize_withBuf fun n => emitEa_withBuf op n n ea none h

theorem emitDnEa_withBuf (op : Operation) (dn : RegNum) (toEa : Bool) (ss : BitVec 2) (ea : EaField)
    (h : s.SameAhead m 5) : emitDnEa op dn toEa ss ea (s.withBuf m) = endWithBuf m (emitDnEa op dn toEa ss ea s) := by
  refine withSize_withBuf fun n => ?_
  cases toEa
  · exact emitEaTo_withBuf op n ea (.dr dn) h
  · exact emitToEa_withBuf op n (.dr dn) ea h

theorem emitMovea_withBuf (code : BitVec 2) (an : RegNum) (ea : EaField) (h : s.SameAhead m 5) :
    emitMovea code an ea (s.withBuf m) = endWithBuf m (emitMovea code an ea s) :=
  withSize_withBuf fun n => emitEaTo_withBuf .MOVEA n ea (.ar an) h

/-! A word or an immediate, then an effective address. -/

theorem emitImmToImplied_withBuf (op : Operation) (size : Nat) (h : s.SameAhead m 2) :
    emitImmToImplied op size (s.withBuf m) = endWithBuf m (emitImmToImplied op size s) := by
  simp only [emitImmToImplied, readImm_withBuf size h, emit_withBuf]

theorem emitImmToEa_withBuf (op : Operation) (ss : BitVec 2) (ea : EaField) (h : s.SameAhead m 7) :
    emitImmToEa op ss ea (s.withBuf m) = endWithBuf m (emitImmToEa op ss ea s) := by
  refine withSize_withBuf fun n => ?_
  have rest : (readImm n s).2.SameAhead m 5 := h.after (readImm_advances n s)
  simp only [readImm_withBuf n (h.mono (by decide)), resolveEa_withBuf ea n rest, emit_withBuf]

theorem emitByteToEa_withBuf (op : Operation) (size hint : Nat) (ea : EaField) (h : s.SameAhead m 6) :
    emitByteToEa op size hint ea (s.withBuf m) = endWithBuf m (emitByteToEa op size hint ea s) := by
  simp only [emitByteToEa, pull16_withBuf (h.mono (by decide)), resolveEa_withBuf ea hint h.pull16, emit_withBuf]

theorem emitBounds_withBuf (op : Operation) (ss : BitVec 2) (ea : EaField) (rn : RegField) (h : s.SameAhead m 6) :
    emitBounds op ss ea rn (s.withBuf m) = endWithBuf m (emitBounds op ss ea rn s) := by
  refine withSize_withBuf fun n => ?_
  simp only [pull16_withBuf (h.mono (by decide)), emitEaTo_withBuf _ _ _ _ h.pull16]

theorem emitCas_withBuf (code : BitVec 2) (ea : EaField) (h : s.SameAhead m 6) :
    emitCas code ea (s.withBuf m) = endWithBuf m (emitCas code ea s) := by
  refine withSize_withBuf fun n => ?_
  simp only [pull16_withBuf (h.mono (by decide)), emitToEa_withBuf _ _ _ _ h.pull16]

/-- A word that is consumed, then an effective address and a fixed destination. -/
theorem emitEaTo_pull16_withBuf (op : Operation) (size : Nat) (ea : EaField) (o : Operand) (h : s.SameAhead m 6) :
    emitEaTo op size ea o (pull16 (s.withBuf m)).2 = endWithBuf m (emitEaTo op size ea o (pull16 s).2) := by
  simp only [pull16_withBuf (h.mono (by decide)), emitEaTo_withBuf _ _ _ _ h.pull16]

/-- A word that is consumed, then a fixed source and an effective address. -/
theorem emitToEa_pull16_withBuf (op : Operation) (size : Nat) (o : Operand) (ea : EaField) (h : s.SameAhead m 6) :
    emitToEa op size o ea (pull16 (s.withBuf m)).2 = endWithBuf m (emitToEa op size o ea (pull16 s).2) := by
  simp only [pull16_withBuf (h.mono (by decide)), emitToEa_withBuf _ _ _ _ h.pull16]

theorem emitDivL32_withBuf (opQ opR : Operation) (ea : EaField) (dq dr : RegNum) (h : s.SameAhead m 6) :
    emitDivL32 opQ opR ea dq dr (s.withBuf m) = endWithBuf m (emitDivL32 opQ opR ea dq dr s) := by
  by_cases same : dr = dq
  · simp only [emitDivL32, if_pos same, emitEaTo_pull16_withBuf _ _ _ _ h]
  · simp only [emitDivL32, if_neg same, emitEaTo_pull16_withBuf _ _ _ _ h]

theorem emitBf_withBuf (op : Operation) (ea : EaField) (h : s.SameAhead m 6) :
    emitBf op ea (s.withBuf m) = endWithBuf m (emitBf op ea s) := by
  simp only [emitBf, pull16_withBuf (h.mono (by decide)), resolveEa_withBuf ea 0 h.pull16, emit_withBuf]

theorem emitBfToDn_withBuf (op : Operation) (ea : EaField) (h : s.SameAhead m 6) :
    emitBfToDn op ea (s.withBuf m) = endWithBuf m (emitBfToDn op ea s) := by
  simp only [emitBfToDn, pull16_withBuf (h.mono (by decide)), resolveEa_withBuf ea 0 h.pull16, emit_withBuf]

theorem emitFpGeneral_withBuf (op : Operation) (ea : EaField) (rm : Bool) (src : BitVec 3) (dst : Option Operand)
    (h : s.SameAhead m 6) :
    emitFpGeneral op ea rm src dst (s.withBuf m) = endWithBuf m (emitFpGeneral op ea rm src dst s) := by
  unfold emitFpGeneral
  simp only [pull16_withBuf (h.mono (by decide))]
  cases rm with
  | false => rfl
  | true =>
    cases fmtIn src with
    | none => exact raiseError_withBuf .reserved _
    | some f => simp only [if_true, resolveEa_withBuf ea (formatSize f) h.pull16, emit_withBuf]

/-! Two effective addresses. -/

theorem emitMove_withBuf (code : BitVec 2) (src dst : EaField) (h : s.SameAhead m 10) :
    emitMove code src dst (s.withBuf m) = endWithBuf m (emitMove code src dst s) := by
  refine withSize_withBuf fun n => ?_
  have rest : (resolveEa src n s).2.SameAhead m 5 := h.after (resolveEa_advances src n s)
  simp only [resolveEa_withBuf src n (h.mono (by decide)), resolveEa_withBuf dst n rest, emit_withBuf]

/-! Words alone, and the meanings that have no shape of their own. -/

theorem emitBranch_withBuf (op : Operation) (disp : Byte) (x : Option Extra) (h : s.SameAhead m 2) :
    emitBranch op disp x (s.withBuf m) = endWithBuf m (emitBranch op disp x s) := by
  simp only [emitBranch, branchDisp_withBuf disp h, emit_withBuf]

theorem emitAdjust_withBuf (op : Operation) (rx : RegNum) (mem : Bool) (ry : RegNum) (h : s.SameAhead m 1) :
    emitAdjust op rx mem ry (s.withBuf m) = endWithBuf m (emitAdjust op rx mem ry s) := by
  simp only [emitAdjust, pull16_withBuf h, emit_withBuf]

theorem execMovep_withBuf (dx : RegNum) (toMem long : Bool) (ay : RegNum) (h : s.SameAhead m 1) :
    execMovep dx toMem long ay (s.withBuf m) = endWithBuf m (execMovep dx toMem long ay s) := by
  cases toMem <;> simp only [execMovep, pullDisp16_withBuf h, emit_withBuf] <;> rfl

theorem execMoves_withBuf (ss : BitVec 2) (ea : EaField) (h : s.SameAhead m 6) :
    execMoves ss ea (s.withBuf m) = endWithBuf m (execMoves ss ea s) := by
  refine withSize_withBuf fun n => ?_
  simp only [pull16_withBuf (h.mono (by decide)), emitToEa_withBuf _ _ _ _ h.pull16, emitEaTo_withBuf _ _ _ _ h.pull16]
  split_ifs <;> rfl

theorem execMovemStore_withBuf (long : Bool) (ea : EaField) (h : s.SameAhead m 6) :
    execMovemStore long ea (s.withBuf m) = endWithBuf m (execMovemStore long ea s) := by
  simp only [execMovemStore, pull16_withBuf (h.mono (by decide)), resolveEa_withBuf ea _ h.pull16, emit_withBuf]

theorem execMovemLoad_withBuf (long : Bool) (ea : EaField) (h : s.SameAhead m 6) :
    execMovemLoad long ea (s.withBuf m) = endWithBuf m (execMovemLoad long ea s) := by
  simp only [execMovemLoad, pull16_withBuf (h.mono (by decide)), emitEaTo_withBuf _ _ _ _ h.pull16]

theorem execBfins_withBuf (ea : EaField) (h : s.SameAhead m 6) :
    execBfins ea (s.withBuf m) = endWithBuf m (execBfins ea s) := by
  simp only [execBfins, pull16_withBuf (h.mono (by decide)), resolveEa_withBuf ea _ h.pull16, emit_withBuf]

theorem execFmoveToEa_withBuf (ea : EaField) (fmt : BitVec 3) (fpm : RegNum) (k : BitVec 7) (h : s.SameAhead m 6) :
    execFmoveToEa ea fmt fpm k (s.withBuf m) = endWithBuf m (execFmoveToEa ea fmt fpm k s) := by
  simp only [execFmoveToEa, pull16_withBuf (h.mono (by decide)), resolveEa_withBuf ea _ h.pull16, emit_withBuf]

theorem execFmovemToCtl_withBuf (ea : EaField) (list : BitVec 3) (h : s.SameAhead m 6) :
    execFmovemToCtl ea list (s.withBuf m) = endWithBuf m (execFmovemToCtl ea list s) := by
  simp only [execFmovemToCtl, pull16_withBuf (h.mono (by decide)), resolveEa_withBuf ea _ h.pull16, emit_withBuf,
    raiseError_withBuf]
  split_ifs <;> rfl

theorem execFmovemFromCtl_withBuf (ea : EaField) (list : BitVec 3) (h : s.SameAhead m 6) :
    execFmovemFromCtl ea list (s.withBuf m) = endWithBuf m (execFmovemFromCtl ea list s) := by
  simp only [execFmovemFromCtl, pull16_withBuf (h.mono (by decide)), resolveEa_withBuf ea _ h.pull16, emit_withBuf,
    raiseError_withBuf]
  split_ifs <;> rfl

theorem execFscc_withBuf (ea : EaField) (h : s.SameAhead m 6) :
    execFscc ea (s.withBuf m) = endWithBuf m (execFscc ea s) := by
  simp only [execFscc, pull16_withBuf (h.mono (by decide)), emitEa_withBuf _ _ _ _ _ h.pull16]

/-- Every meaning, grouped by the words it reads: ten at most (30_encoding.md R77). -/
theorem exec_withBuf (i : Instr) (h : s.SameAhead m 10) : exec i (s.withBuf m) = endWithBuf m (exec i s) := by
  have one : s.SameAhead m 1 := h.mono (by decide)
  have two : s.SameAhead m 2 := h.mono (by decide)
  have five : s.SameAhead m 5 := h.mono (by decide)
  have six : s.SameAhead m 6 := h.mono (by decide)
  have next : (pull16 s).2.SameAhead m 1 := two.pull16
  have next2 : (pull16 s).2.SameAhead m 2 := State.SameAhead.pull16 (h.mono (by decide))
  cases i with
  -- no word is read
  | illegal | bgnd | reset | nop | rte | rts | trapv | rtr | trap _ | unlk _ | moveToUsp _ | moveFromUsp _ | swap _
  | bkpt _ | extW _ | extL _ | extbL _ | rtm _ | exgDD _ _ | exgAA _ _ | exgDA _ _ | moveq _ _ | trapcc _ | sbcd _ _ _
  | abcd _ _ _ | fnop => rfl
  | cmpm _ _ _ | subx _ _ _ _ | addx _ _ _ _ | asrDy _ _ _ _ | aslDy _ _ _ _ | lsrDy _ _ _ _ | lslDy _ _ _ _
  | roxrDy _ _ _ _ | roxlDy _ _ _ _ | rorDy _ _ _ _ | rolDy _ _ _ _ => exact withSize_withBuf fun _ => rfl
  | cas2 _ => exact raiseError_withBuf .notImplemented s
  -- words alone
  | stop | rtd | movecFrom | movecTo | linkW _ | trapccW _ | dbcc _ _ | fbccW _ | fmovecr _ _ | ftrapcc =>
    simp only [exec, execStop, execRtd, execMovecFrom, execMovecTo, execLinkW, execTrapccW, execDbcc, execFbccW,
      execFmovecr, execFtrapcc, pullDisp16_withBuf one, pull16_withBuf one, emit_withBuf]
  | linkL _ | trapccL _ | fbccL _ =>
    simp only [exec, execLinkL, execTrapccL, execFbccL, pull32_withBuf two, emit_withBuf]
  | ftrapccW | ftrapccL | fdbcc _ =>
    simp only [exec, execFtrapccW, execFtrapccL, execFdbcc, pull16_withBuf one, pull16_withBuf next,
      pullDisp16_withBuf next, pull32_withBuf next2, emit_withBuf]
  | movep _ _ _ _ => exact execMovep_withBuf _ _ _ _ one
  | pack _ _ _ | unpk _ _ _ => exact emitAdjust_withBuf _ _ _ _ one
  | oriToCcr | oriToSr | andiToCcr | andiToSr | eoriToCcr | eoriToSr => exact emitImmToImplied_withBuf _ _ two
  | bra _ | bsr _ | bcc _ _ => exact emitBranch_withBuf _ _ _ two
  -- one effective address
  | jsr _ | jmp _ | nbcd _ | pea _ | tas _ | fsave _ | frestore _ | asrEa _ | aslEa _ | lsrEa _ | lslEa _ | roxrEa _
  | roxlEa _ | rorEa _ | rolEa _ | scc _ _ => exact emitEa_withBuf _ _ _ _ _ five
  | negx _ _ | clr _ _ | neg _ _ | not _ _ | tst _ _ => exact emitSizedEa_withBuf _ _ _ five
  | moveToCcr _ | moveToSr _ | chkL _ _ | chkW _ _ | lea _ _ | divuW _ _ | divsW _ _ | muluW _ _ | mulsW _ _
  | suba _ _ _ | cmpa _ _ _ | adda _ _ _ => exact emitEaTo_withBuf _ _ _ _ five
  | moveFromSr _ | moveFromCcr _ => exact emitToEa_withBuf _ _ _ _ five
  | btstDn _ _ | bchgDn _ _ | bclrDn _ _ | bsetDn _ _ => exact emitToEa_withBuf _ _ _ _ five
  | cmp _ _ _ => exact withSize_withBuf fun _ => emitEaTo_withBuf _ _ _ _ five
  | moveaL _ _ => exact emitMovea_withBuf 0b10 _ _ five
  | moveaW _ _ => exact emitMovea_withBuf 0b11 _ _ five
  | eor _ _ _ | addq _ _ _ | subq _ _ _ => exact withSize_withBuf fun _ => emitToEa_withBuf _ _ _ _ five
  | or _ _ _ _ | sub _ _ _ _ | and _ _ _ _ | add _ _ _ _ => exact emitDnEa_withBuf _ _ _ _ _ five
  -- a word or an immediate, then an effective address
  | btstImm _ | bchgImm _ | bclrImm _ | bsetImm _ | callm _ => exact emitByteToEa_withBuf _ _ _ _ six
  | cmp2 _ _ _ | chk2 _ _ _ => exact emitBounds_withBuf _ _ _ _ six
  | casB _ => exact emitCas_withBuf 0b01 _ six
  | casW _ => exact emitCas_withBuf 0b10 _ six
  | casL _ => exact emitCas_withBuf 0b11 _ six
  | ori _ _ | andi _ _ | subi _ _ | addi _ _ | eori _ _ | cmpi _ _ =>
    exact emitImmToEa_withBuf _ _ _ (h.mono (by decide))
  | moves _ _ => exact execMoves_withBuf _ _ six
  | movemStore _ _ => exact execMovemStore_withBuf _ _ six
  | movemLoad _ _ => exact execMovemLoad_withBuf _ _ six
  | muluL _ _ _ _ | mulsL _ _ _ _ | divuL64 _ _ _ | divsL64 _ _ _ => exact emitEaTo_pull16_withBuf _ _ _ _ six
  | divuL32 _ _ _ | divsL32 _ _ _ => exact emitDivL32_withBuf _ _ _ _ _ six
  | bftst _ | bfchg _ | bfclr _ | bfset _ => exact emitBf_withBuf _ _ six
  | bfextu _ | bfexts _ | bfffo _ => exact emitBfToDn_withBuf _ _ six
  | bfins _ => exact execBfins_withBuf _ six
  | fscc _ => exact execFscc_withBuf _ six
  -- two effective addresses
  | moveB _ _ => exact emitMove_withBuf 0b01 _ _ h
  | moveL _ _ => exact emitMove_withBuf 0b10 _ _ h
  | moveW _ _ => exact emitMove_withBuf 0b11 _ _ h
  -- the FPU moves and operations
  | fmoveToEa _ _ _ _ => exact execFmoveToEa_withBuf _ _ _ _ six
  | fmoveToFpcr _ | fmoveToFpsr _ | fmoveToFpiar _ | fmovemToFp _ _ _ => exact emitEaTo_pull16_withBuf _ _ _ _ six
  | fmoveFromFpcr _ | fmoveFromFpsr _ | fmoveFromFpiar _ | fmovemFromFp _ _ _ =>
    exact emitToEa_pull16_withBuf _ _ _ _ six
  | fmovemToCtl _ _ => exact execFmovemToCtl_withBuf _ _ six
  | fmovemFromCtl _ _ => exact execFmovemFromCtl_withBuf _ _ six
  | _ => exact emitFpGeneral_withBuf _ _ _ _ _ six

/-! The call. -/

theorem scanState_withBuf (w1 : Word) (h : s.SameAhead m 1) :
    scanState w1 (s.withBuf m) = (scanState w1 s).withBuf m := by
  cases peek : peeksSecond w1 with
  | false => rw [scanState_of_not_peeks peek, scanState_of_not_peeks peek]
  | true => rw [scanState_of_peeks peek, scanState_of_peeks peek, peekWord_withBuf h]

theorem dispatch_withBuf (w1 : Word) (h : s.SameAhead m 10) :
    dispatch w1 (s.withBuf m) = endWithBuf m (dispatch w1 s) := by
  have one : s.SameAhead m 1 := h.mono (by decide)
  have scanned : (scanState w1 s).SameAhead m 10 := h.after (scanState_advances w1 s)
  have word : (peekWord 0 (s.withBuf m)).1 = (peekWord 0 s).1 := by rw [peekWord_withBuf one]
  cases taken : decodeWords w1 (peekWord 0 s).1 with
  | none =>
    rw [dispatch_of_none taken, dispatch_of_none (word ▸ taken), scanState_withBuf w1 one, raiseError_withBuf]
  | some i =>
    rw [dispatch_of_some taken, dispatch_of_some (word ▸ taken), scanState_withBuf w1 one, exec_withBuf i scanned]

/-- A step ends the same on every buffer with the same first 22 bytes. -/
theorem step_withBuf_of_agree (h : s.buf.AgreeBelow 22 m) : step (s.withBuf m) = endWithBuf m (step s) := by
  have ahead : (freshCursor s).SameAhead m (10 + 1) := h
  have fresh : freshCursor (s.withBuf m) = (freshCursor s).withBuf m := rfl
  rw [step_eq_dispatch, step_eq_dispatch, reading, reading, fresh, pull16_withBuf (ahead.mono (by decide)),
    dispatch_withBuf _ ahead.pull16]

/-- Settles O58: the bytes and their first 22 agree below offset 22, and a step sees no more of them. -/
theorem onlyTheFirst22BytesMatter : Obligations.OnlyTheFirst22BytesMatter := by
  intro bytes
  have agree : (stateOf bytes).buf.AgreeBelow 22 (Memory.ofBytes (bytes.take 22)) := fun off below => by
    simpa [stateOf] using List.getElem?_take_of_lt below
  have cut : step (stateOf (bytes.take 22)) = endWithBuf _ (step (stateOf bytes)) := step_withBuf_of_agree agree
  rw [decodeCall, decodeCall, cut]
  cases step (stateOf bytes) <;> rfl

end Sys2Proof.Machine

/-! The unassigned encodings (42_group4.md R113, 44_group6_7.md R170, 45_arith_logic.md R175, 47_fpu_ops.md R223, R224).
They are written as mask-and-value tests, as the rows are: a gap of the table is a test that no row shares a word pair
with, and the rows and the gaps together cover every word pair. -/
namespace Sys2Proof
open Sys2Proof.Machine

/-! Whether a list of tests covers every number, asked bit by bit. -/

/-- Whether every number whose bits under `km` are `kv` passes one of the tests, mask and value: either the bits of some
test's mask are all known and right, or the next bit of the list that a test asks for is made known, as 0 and as 1, and
the tests that then fail are dropped. -/
def covers : List Nat → Nat → Nat → List (Nat × Nat) → Bool
  | [], km, kv, tests => tests.any fun t => t.1 &&& km == t.1 && kv &&& t.1 == t.2
  | b :: bs, km, kv, tests =>
    (tests.any fun t => t.1 &&& km == t.1 && kv &&& t.1 == t.2) ||
      if tests.any fun t => t.1.testBit b then
        covers bs (km ||| 2 ^ b) kv (tests.filter fun t => kv &&& t.1 == t.2 &&& (km ||| 2 ^ b)) &&
          covers bs (km ||| 2 ^ b) (kv ||| 2 ^ b)
            (tests.filter fun t => (kv ||| 2 ^ b) &&& t.1 == t.2 &&& (km ||| 2 ^ b))
      else covers bs km kv tests

theorem exists_test_of_known {km kv w : Nat} {tests : List (Nat × Nat)} (known : w &&& km = kv)
    (h : (tests.any fun t => t.1 &&& km == t.1 && kv &&& t.1 == t.2) = true) : ∃ t ∈ tests, w &&& t.1 = t.2 := by
  obtain ⟨t, mem, decided⟩ := List.any_eq_true.mp h
  obtain ⟨under, right⟩ := Bool.and_eq_true_iff.mp decided
  refine ⟨t, mem, ?_⟩
  calc w &&& t.1 = w &&& (t.1 &&& km) := by rw [eq_of_beq under]
    _ = kv &&& t.1 := by rw [← known, Nat.and_assoc, Nat.and_comm km]
    _ = t.2 := eq_of_beq right

theorem exists_test_of_covers {bs : List Nat} {km kv w : Nat} {tests : List (Nat × Nat)}
    (h : covers bs km kv tests = true) (known : w &&& km = kv) : ∃ t ∈ tests, w &&& t.1 = t.2 := by
  induction bs generalizing km kv tests with
  | nil => exact exists_test_of_known known h
  | cons b bs ih =>
    rcases Bool.or_eq_true_iff.mp h with decided | split
    · exact exists_test_of_known known decided
    · split at split
      next =>
        obtain ⟨zero, one⟩ := Bool.and_eq_true_iff.mp split
        have known' : w &&& (km ||| 2 ^ b) = kv ||| (w.testBit b).toNat * 2 ^ b := by
          rw [Nat.and_or_distrib_left, known, Nat.and_two_pow]
        cases bit : w.testBit b with
        | false =>
          obtain ⟨t, mem, passed⟩ := ih zero (by simpa [bit] using known')
          exact ⟨t, (List.mem_filter.mp mem).1, passed⟩
        | true =>
          obtain ⟨t, mem, passed⟩ := ih one (by simpa [bit] using known')
          exact ⟨t, (List.mem_filter.mp mem).1, passed⟩
      next => exact ih split known

/-! The gaps. -/

/-- The opcode words that no row takes, one block of words for each entry. -/
def firstGaps : List (Word × Word) :=
  [(0xF1C0, 0x4140), (0xFFC0, 0x4E00), (0xFFFE, 0x4E78), (0xFFFC, 0x4E7C), (0xF100, 0x7100), (0xF000, 0xA000),
    (0xFE00, 0xF000), (0xFF80, 0xF380), (0xFC00, 0xF400), (0xF800, 0xF800)]

/-- The unassigned opmodes, in blocks. -/
def opmodeGaps : List (BitVec 7 × BitVec 7) :=
  [(0x7D, 0x05), (0x6F, 0x0B), (0x7B, 0x13), (0x7F, 0x29), (0x7E, 0x2A), (0x7C, 0x2C), (0x7F, 0x39), (0x7F, 0x3B),
    (0x7C, 0x3C), (0x7E, 0x42), (0x7E, 0x46), (0x78, 0x48), (0x78, 0x50), (0x79, 0x59), (0x7B, 0x61), (0x7F, 0x69),
    (0x7E, 0x6A), (0x7F, 0x6D), (0x7E, 0x6E), (0x70, 0x70)]

/-- The unassigned command words: class 001, and classes 000 and 010 with an unassigned opmode. -/
def commandGaps : List (Word × Word) :=
  (0xE000, 0x2000) :: opmodeGaps.map fun g => (0b101000000#9 ++ g.1, 0b000000000#9 ++ g.2)

/-- A gap after a type-000 line-F word. -/
def commandGap (g : Word × Word) : Tests := ((0xFFC0, 0xF200), some g)

def gaps : List Tests := firstGaps.map (·, none) ++ commandGaps.map commandGap

/-- The tests of FMOVECR's row, which takes some of the gaps' word pairs (log entry 7). -/
def romConstantTests : Tests := ((0xFFFF, 0xF200), some (0xFC00, 0x5C00))

/-! The gaps are what the statements list. -/

/-- A mask of all bits but the low `k` compares the words without those bits. -/
theorem upper_test_iff (w : Word) {mask value : Word} {k : Nat} (upper : mask = BitVec.allOnes 16 <<< k)
    (aligned : value.toNat / 2 ^ k * 2 ^ k = value.toNat) :
    (w &&& mask == value) = true ↔ w.toNat / 2 ^ k = value.toNat / 2 ^ k := by
  have masked : (w &&& mask).toNat = w.toNat / 2 ^ k * 2 ^ k := by
    have small : w.toNat / 2 ^ k * 2 ^ k < 2 ^ 16 := Nat.lt_of_le_of_lt (Nat.div_mul_le_self ..) w.isLt
    rw [upper, ← BitVec.shiftLeft_ushiftRight, BitVec.toNat_shiftLeft, BitVec.toNat_ushiftRight,
      Nat.shiftRight_eq_div_pow, Nat.shiftLeft_eq, Nat.mod_eq_of_lt small]
  conv => lhs; rw [beq_iff_eq, ← BitVec.toNat_inj, masked, ← aligned]
  exact Nat.mul_left_inj (Nat.two_pow_pos k).ne'

/-- Such a mask tests for a block of `2 ^ k` words. -/
theorem block_test (w mask lo hi : Word) (k : Nat) (upper : mask = BitVec.allOnes 16 <<< k := by rfl)
    (aligned : lo.toNat / 2 ^ k * 2 ^ k = lo.toNat := by rfl) (size : hi.toNat = lo.toNat + 2 ^ k - 1 := by rfl) :
    (w &&& mask == lo) = (decide (lo ≤ w) && decide (w ≤ hi)) := by
  rw [Bool.eq_iff_iff, upper_test_iff w upper aligned, Nat.div_eq_iff (Nat.two_pow_pos k), aligned, ← size]
  simp [BitVec.le_def]

/-- Such a mask tests for the field of the upper `n` bits. -/
theorem upperField_test (w mask value : Word) (k n : Nat) (width : k + n = 16 := by rfl)
    (upper : mask = BitVec.allOnes 16 <<< k := by rfl)
    (aligned : value.toNat / 2 ^ k * 2 ^ k = value.toNat := by rfl) :
    (w &&& mask == value) = (field w k n == field value k n) := by
  have whole (v : Word) : (field v k n).toNat = v.toNat / 2 ^ k := by
    have bound : v.toNat < 2 ^ k * 2 ^ n := by rw [← Nat.pow_add, width]; exact v.isLt
    rw [field, BitVec.extractLsb'_toNat, Nat.shiftRight_eq_div_pow, Nat.mod_eq_of_lt (Nat.div_lt_of_lt_mul bound)]
  rw [Bool.eq_iff_iff, upper_test_iff w upper aligned, beq_iff_eq, ← BitVec.toNat_inj, whole, whole]

theorem unassignedFirst_eq (w1 : Word) : unassignedFirst w1 = firstGaps.any fun g => w1 &&& g.1 == g.2 := by
  have pair4E78 (rest : Bool) : (w1 == 0x4E78 || (w1 == 0x4E79 || rest)) = (w1 &&& 0xFFFE == 0x4E78 || rest) := by
    rw [← Bool.or_assoc, block_test w1 0xFFFE 0x4E78 0x4E79 1]
    congr 1
    rw [Bool.eq_iff_iff]
    simp only [Bool.or_eq_true, Bool.and_eq_true, decide_eq_true_eq, beq_iff_eq]
    bv_omega
  have fromF380 : decide (0xF380 ≤ w1) =
      (w1 &&& 0xFF80 == 0xF380 || (w1 &&& 0xFC00 == 0xF400 || w1 &&& 0xF800 == 0xF800)) := by
    rw [block_test w1 0xFF80 0xF380 0xF3FF 7, block_test w1 0xFC00 0xF400 0xF7FF 10,
      block_test w1 0xF800 0xF800 0xFFFF 11, Bool.eq_iff_iff]
    simp only [Bool.or_eq_true, Bool.and_eq_true, decide_eq_true_eq]
    bv_omega
  simp only [unassignedFirst, firstGaps, List.any_cons, List.any_nil, Bool.or_false, Bool.or_assoc, pair4E78, fromF380,
    ← block_test w1 0xFFC0 0x4E00 0x4E3F 6, ← block_test w1 0xFFFC 0x4E7C 0x4E7F 2,
    ← block_test w1 0xFE00 0xF000 0xF1FF 9]

theorem unassignedOpmode_eq (m : BitVec 7) : unassignedOpmode m = opmodeGaps.any fun g => m &&& g.1 == g.2 := by
  decide +revert

/-- The tests of an unassigned opmode ask for class 000 or 010 and for the opmode. -/
theorem opmode_test (w2 : Word) (g : BitVec 7 × BitVec 7) :
    (w2 &&& (0b101000000#9 ++ g.1) == 0b000000000#9 ++ g.2) =
      ((field w2 13 3 == 0 || field w2 13 3 == 2) && field w2 0 7 &&& g.1 == g.2) := by
  have parts : (field w2 13 3 ++ field w2 7 6 : BitVec 9) ++ field w2 0 7 = w2.extractLsb' 0 16 := by
    simp (disch := rfl) only [append_eq_extractLsb', field]
    simp
  have class_test : ∀ c : BitVec 3, (c &&& 5 == 0) = (c == 0 || c == 2) := by decide
  conv => lhs; rw [← BitVec.extractLsb'_eq_self (x := w2), ← parts]
  simp (disch := rfl) [append_and_beq, extractLsb'_append]
  exact congrArg (· && _) (class_test _)

theorem unassignedCommand_eq (w1 w2 : Word) :
    unassignedCommand w1 w2 =
      ((commandGaps.any fun g => (commandGap g).hold w1 w2) && !romConstantTests.hold w1 w2) := by
  have opcode : w1 &&& 0xFFFF = w1 := BitVec.and_allOnes
  simp only [commandGaps, List.any_cons, List.any_map, Function.comp_def, commandGap, romConstantTests, Tests.hold,
    Option.all_some, opmode_test, ← List.and_any_distrib_left, ← unassignedOpmode_eq, opcode, unassignedCommand,
    ← block_test w1 0xFFC0 0xF200 0xF23F 6, upperField_test w2 0xE000 0x2000 13 3,
    upperField_test w2 0xFC00 0x5C00 10 6]
  rfl

/-! No row takes a word pair of a gap. -/

theorem scan_eq_none_iff {rows : List Row} {w1 w2 : Word} :
    scan rows w1 w2 = none ↔ ∀ r ∈ rows, r.takes w1 w2 = false := by
  induction rows with
  | nil => simp [scan]
  | cons r rs ih =>
    by_cases taken : r.takes w1 w2 = true
    · have first : scan (r :: rs) w1 w2 = some (r.build w1 w2) := if_pos taken
      simp [first, taken]
    · have skipped : scan (r :: rs) w1 w2 = scan rs w1 w2 := if_neg taken
      simp [skipped, ih, taken]

theorem peeks_eq_false {rows : List Row} {w1 : Word} (h : ∀ r ∈ rows, r.matchesFirst w1 = false) :
    peeks rows w1 = false := by
  induction rows with
  | nil => rfl
  | cons r rs ih => simpa [peeks, h r] using ih fun q mem => h q (List.mem_cons_of_mem r mem)

/-- Each block of first words lies in one group and no row of the group reaches it. -/
theorem firstGaps_exclude : (firstGaps.all fun g => field g.1 12 4 == BitVec.allOnes 4 &&
    (groups.getD (field g.2 12 4).toNat []).all (testRow g).excludes) = true := by
  decide +kernel

theorem matchesFirst_of_unassignedFirst {w1 : Word} (h : unassignedFirst w1 = true) :
    ∀ r ∈ group w1, r.matchesFirst w1 = false := by
  rw [unassignedFirst_eq] at h
  obtain ⟨g, mem, test⟩ := List.any_eq_true.mp h
  obtain ⟨upper, exclude⟩ := Bool.and_eq_true_iff.mp (List.all_eq_true.mp firstGaps_exclude g mem)
  have number : field w1 12 4 = field g.2 12 4 := extractLsb'_of_masked test (eq_of_beq upper)
  rw [group_eq_groups, number]
  exact fun r here => Row.matchesFirst_of_excludes (q := testRow g) (List.all_eq_true.mp exclude r here) test

/-- The row that tests of a gap would make. -/
def gapRow (t : Tests) : Row := ⟨t.1.1, t.1.2, t.2, fun _ _ => .nop⟩

/-- No row but FMOVECR's takes a word pair of these gaps. -/
theorem commandGaps_apart : (commandGaps.all fun g => rows1111.all fun r =>
    r.tests == romConstantTests || (gapRow (commandGap g)).apart r) = true := by
  decide +kernel

theorem takes_of_unassignedCommand {w1 w2 : Word} (h : unassignedCommand w1 w2 = true) :
    ∀ r ∈ group w1, r.takes w1 w2 = false := by
  rw [unassignedCommand_eq] at h
  obtain ⟨gap, notRom⟩ := Bool.and_eq_true_iff.mp h
  obtain ⟨g, mem, hold⟩ := List.any_eq_true.mp gap
  have lineF : field w1 12 4 = 15 :=
    extractLsb'_of_masked (mask := 0xFFC0) (value := 0xF200) (Bool.and_eq_true_iff.mp hold).1 rfl
  have rows : group w1 = rows1111 := by rw [group, lineF]; rfl
  intro r here
  rcases Bool.or_eq_true_iff.mp (List.all_eq_true.mp (List.all_eq_true.mp commandGaps_apart g mem) r (rows ▸ here))
    with rom | apart
  · rw [Row.takes_eq_hold, eq_of_beq rom]
    simpa using notRom
  · by_contra taken
    have notHold := Row.takes_of_apart apart (Bool.not_eq_false _ ▸ taken)
    rw [Row.takes_eq_hold] at notHold
    exact Bool.false_ne_true (notHold.symm.trans hold)

/-! Every word pair is a row's or a gap's. -/

/-- The two words of a pair as one number. -/
def pairNumber (w1 w2 : Word) : Nat := (w1 ++ w2).toNat

/-- The tests of a row or a gap as one mask and one value over the pair's number. -/
def Tests.onPair (t : Tests) : Nat × Nat :=
  (pairNumber t.1.1 (t.2.getD (0, 0)).1, pairNumber t.1.2 (t.2.getD (0, 0)).2)

theorem hold_of_onPair {t : Tests} {w1 w2 : Word} (h : pairNumber w1 w2 &&& t.onPair.1 = t.onPair.2) :
    t.hold w1 w2 = true := by
  obtain ⟨⟨mask, value⟩, guard⟩ := t
  have passed := beq_iff_eq.mpr (BitVec.eq_of_toNat_eq ((BitVec.toNat_and ..).trans h))
  cases guard <;> simpa (disch := rfl) [append_and_beq, extractLsb'_append, Tests.hold] using passed

/-- The order in which the bits of a word pair are asked for: the opcode word's upper ten; the command word's class, its
opmode and its source code; the rest of the opcode word. -/
def pairBits : List Nat :=
  [31, 30, 29, 28, 27, 26, 25, 24, 23, 22] ++ [15, 14, 13] ++ [6, 5, 4, 3, 2, 1, 0] ++ [12, 11, 10] ++
    [21, 20, 19, 18, 17, 16]

theorem table_and_gaps_cover : covers pairBits 0 0 ((table.map Row.tests ++ gaps).map Tests.onPair) = true := by
  decide +kernel

theorem exists_hold (w1 w2 : Word) : ∃ t ∈ table.map Row.tests ++ gaps, t.hold w1 w2 = true := by
  obtain ⟨_, mem, passed⟩ := exists_test_of_covers table_and_gaps_cover (Nat.and_zero (pairNumber w1 w2))
  obtain ⟨t, here, rfl⟩ := List.mem_map.mp mem
  exact ⟨t, here, hold_of_onPair passed⟩

/-- A gap is one of the listed encodings, but for what FMOVECR's row takes of it. -/
theorem unassigned_of_hold {t : Tests} {w1 w2 : Word} (gap : t ∈ gaps) (hold : t.hold w1 w2 = true)
    (notRom : romConstantTests.hold w1 w2 = false) : unassignedFirst w1 = true ∨ unassignedCommand w1 w2 = true := by
  rcases List.mem_append.mp gap with first | command
  · obtain ⟨g, mem, rfl⟩ := List.mem_map.mp first
    rw [unassignedFirst_eq]
    exact .inl (List.any_eq_true.mpr ⟨g, mem, (Bool.and_eq_true_iff.mp hold).1⟩)
  · obtain ⟨g, mem, rfl⟩ := List.mem_map.mp command
    rw [unassignedCommand_eq, notRom, Bool.not_false, Bool.and_true]
    exact .inr (List.any_eq_true.mpr ⟨g, mem, hold⟩)

theorem decodeWords_eq_none_iff (w1 w2 : Word) :
    decodeWords w1 w2 = none ↔ (unassignedFirst w1 = true ∨ unassignedCommand w1 w2 = true) := by
  constructor
  · intro untaken
    rw [decodeWords_eq_scan_table, scan_eq_none_iff] at untaken
    have notRow {t : Tests} (mem : t ∈ table.map Row.tests) : t.hold w1 w2 = false := by
      obtain ⟨r, here, rfl⟩ := List.mem_map.mp mem
      exact Row.takes_eq_hold r w1 w2 ▸ untaken r here
    have rom : romConstantTests ∈ table.map Row.tests :=
      List.mem_map_of_mem (List.mem_of_getElem? (table_getElem?_ctorIdx (.fmovecr 0 0)))
    obtain ⟨t, mem, hold⟩ := exists_hold w1 w2
    rcases List.mem_append.mp mem with row | gap
    · exact absurd ((notRow row).symm.trans hold) Bool.false_ne_true
    · exact unassigned_of_hold gap hold (notRow rom)
  · rintro (first | command)
    · exact scan_eq_none (matchesFirst_of_unassignedFirst first)
    · exact scan_eq_none_iff.mpr (takes_of_unassignedCommand command)

end Sys2Proof

/-! A call on an unassigned opcode word. -/
namespace Sys2Proof.Machine

/-- An unassigned opcode word is refused without a peek at the word after it. -/
theorem dispatch_of_unassignedFirst {w1 : Word} {s : State} (h : unassignedFirst w1 = true) (clean : s.err = none) :
    dispatch w1 s = failed .notImplemented s := by
  have unpeeked : peeksSecond w1 = false := peeks_eq_false (matchesFirst_of_unassignedFirst h)
  rw [dispatch_of_none ((decodeWords_eq_none_iff _ _).mpr (.inl h)), scanState_of_not_peeks unpeeked,
    raiseError_of_none clean]

/-- Settles O51: rows and gaps cover every word pair and share none, and the gaps are the listed encodings. -/
theorem unassignedEncodingsAreExactlyTheListed : Obligations.UnassignedEncodingsAreExactlyTheListed := by
  refine ⟨decodeWords_eq_none_iff, fun s w1 opcode unassigned => ?_⟩
  rw [step_eq_dispatch, reading, pull16_of_some (s := freshCursor s) opcode, dispatch_of_unassignedFirst unassigned rfl]
  rfl

end Sys2Proof.Machine

/-! The answers of the builders of group 0000, of MOVEM and of the forms with fixed operands, where no error arises
(40_group0.md, 42_group4.md): each shape's answer once, then the forms of each shape. -/
namespace Sys2Proof.Machine

/-! The shapes. -/

section
variable {op : Operation} {size hint n : Nat} {o o0 o1 : Option Operand} {x : Option Extra} {ea : EaField} {s : State}
  {w lo : Word}

theorem emit_accepted (clean : s.err = none) : emit op size o0 o1 x s = accepted op size o0 o1 x s := emit_of_none clean

theorem emitEaTo_accepted {o : Operand} (clean : (resolveEa ea size s).2.err = none) :
    emitEaTo op size ea o s =
      accepted op size (some (resolveEa ea size s).1) (some o) none (resolveEa ea size s).2 :=
  emit_accepted clean

theorem emitToEa_accepted {o : Operand} (clean : (resolveEa ea size s).2.err = none) :
    emitToEa op size o ea s =
      accepted op size (some o) (some (resolveEa ea size s).1) none (resolveEa ea size s).2 :=
  emit_accepted clean

/-- The low byte of a word. -/
theorem field_low_byte (w : Word) : field w 0 8 = w.setWidth 8 := BitVec.setWidth_eq_extractLsb' (by decide) |>.symm

theorem readImm_byte (ahead : s.wordAhead 0 = some w) : readImm 1 s = (.imm8 (w.setWidth 8), skipWords 1 s) := by
  rw [← field_low_byte, readImm, if_pos rfl, pull16_of_wordAhead ahead]

theorem readImm_word (ahead : s.wordAhead 0 = some w) : readImm 2 s = (.imm16 w, skipWords 1 s) := by
  rw [readImm, if_neg (by decide), if_pos rfl, pull16_of_wordAhead ahead]

theorem pull32_of_wordAhead (high : s.wordAhead 0 = some w) (low : s.wordAhead 1 = some lo) :
    pull32 s = (w ++ lo, skipWords 2 s) := pull32_of_some high low

theorem emitImmToImplied_accepted (clean : (readImm size s).2.err = none) :
    emitImmToImplied op size s = accepted op size (some (readImm size s).1) (some .implied) none (readImm size s).2 :=
  emit_accepted clean

theorem emitImmToEa_accepted {ss : BitVec 2} (code : sizeStd ss = some n)
    (clean : (resolveEa ea n (readImm n s).2).2.err = none) :
    emitImmToEa op ss ea s = accepted op n (some (readImm n s).1) (some (resolveEa ea n (readImm n s).2).1) none
      (resolveEa ea n (readImm n s).2).2 := by
  rw [emitImmToEa, code, withSize_some]
  exact emit_accepted clean

theorem emitByteToEa_accepted (ahead : s.wordAhead 0 = some w)
    (clean : (resolveEa ea hint (skipWords 1 s)).2.err = none) :
    emitByteToEa op size hint ea s = accepted op size (some (.imm8 (w.setWidth 8)))
      (some (resolveEa ea hint (skipWords 1 s)).1) none (resolveEa ea hint (skipWords 1 s)).2 := by
  rw [← field_low_byte, emitByteToEa, pull16_of_wordAhead ahead]
  exact emit_accepted clean

theorem emitBounds_accepted {ss : BitVec 2} {rn : RegField} (ahead : s.wordAhead 0 = some w)
    (code : sizeCmp2 ss = some n) (clean : (resolveEa ea n (skipWords 1 s)).2.err = none) :
    emitBounds op ss ea rn s = accepted op n (some (resolveEa ea n (skipWords 1 s)).1) (some (regOperand rn)) none
      (resolveEa ea n (skipWords 1 s)).2 := by
  rw [emitBounds, code, withSize_some, pull16_of_wordAhead ahead]
  exact emitEaTo_accepted clean

theorem emitCas_accepted {code : BitVec 2} (size : sizeCas code = some n) (ahead : s.wordAhead 0 = some w)
    (clean : (resolveEa ea n (skipWords 1 s)).2.err = none) :
    emitCas code ea s = accepted .CAS n (some (.dPair (field w 0 3) (field w 6 3)))
      (some (resolveEa ea n (skipWords 1 s)).1) none (resolveEa ea n (skipWords 1 s)).2 := by
  rw [emitCas, size, withSize_some, pull16_of_wordAhead ahead]
  exact emitToEa_accepted clean

end

/-! The forms. -/

/-- Settles O23: each of these forms is one `emit` on the cursor as it is. -/
theorem registerFormsComplete : Obligations.RegisterFormsComplete := by
  intro s clean
  have ends {op size o0 o1 x} : emit op size o0 o1 x s = accepted op size o0 o1 x s := emit_accepted clean
  exact ⟨fun _ => ⟨ends, ends⟩, fun _ => ends, fun _ => ends, fun _ => ⟨ends, ends, ends, ends, ends, ends, ends⟩,
    fun _ _ => ends, fun _ _ => ⟨ends, ends, ends⟩, fun _ => ends⟩

/-- Settles O24: each of these forms reads its word or its two words, then emits. -/
theorem oneWordFormsComplete : Obligations.OneWordFormsComplete := by
  intro s w lo clean ahead
  have ends {op size o0 o1 x} : emit op size o0 o1 x (skipWords 1 s) = accepted op size o0 o1 x (skipWords 1 s) :=
    emit_accepted clean
  have byte (op) : emitImmToImplied op 1 s = _ := emitImmToImplied_accepted (by rwa [readImm_byte ahead])
  have word (op) : emitImmToImplied op 2 s = _ := emitImmToImplied_accepted (by rwa [readImm_word ahead])
  rw [readImm_byte ahead] at byte
  rw [readImm_word ahead] at word
  have pulled := pull16_of_wordAhead ahead
  refine ⟨fun p mem => ?_, fun p mem => ?_, ?_, ?_, fun n => ?_, fun c => ?_, fun low => ⟨fun n => ?_, fun c => ?_⟩⟩
  · fin_cases mem <;> exact byte _
  · fin_cases mem <;> exact word _
  · rw [exec, execStop, pulled]; exact ends
  · rw [exec, execRtd, pulled]; exact ends
  · rw [exec, execLinkW, pulled]; exact ends
  · rw [exec, execTrapccW, pulled]; exact ends
  · rw [exec, execLinkL, pull32_of_wordAhead ahead low]; exact emit_accepted clean
  · rw [exec, execTrapccL, pull32_of_wordAhead ahead low]; exact emit_accepted clean

/-- Settles O28: the six forms have one shape. -/
theorem immediateToAddressComplete : Obligations.ImmediateToAddressComplete := by
  intro p mem ss n ea s _ code _ clean
  have answer (op) : emitImmToEa op ss ea s = _ := emitImmToEa_accepted code clean
  fin_cases mem <;> exact answer _

/-- Settles O29: a bit operation has its data register, or the low byte of its word, for a source, and CALLM the low
byte of its word. -/
theorem bitOperationsComplete : Obligations.BitOperationsComplete := by
  refine ⟨fun p mem dn ea n s _ size clean => ?_, fun p mem ea n s w _ ahead size clean => ?_,
    fun ea s w _ ahead clean => emitByteToEa_accepted ahead clean⟩ <;> subst size
  · have answer (op) : emitBitDn op dn ea s = _ := emitToEa_accepted clean
    fin_cases mem <;> exact answer _
  · have answer (op) : emitBitImm op ea s = _ := emitByteToEa_accepted ahead clean
    fin_cases mem <;> exact answer _

/-- The compare registers of CAS's word. -/
theorem casWord_fields (hi : BitVec 7) (du dc : RegNum) (mid : BitVec 3) :
    field (hi ++ du ++ mid ++ dc) 0 3 = dc ∧ field (hi ++ du ++ mid ++ dc) 6 3 = du := by
  constructor <;> simp (disch := rfl) [field, extractLsb'_append]

/-- The register and the direction bit of MOVES's word. -/
theorem movesWord_fields (a toMem : Bool) (r : RegNum) (low : BitVec 11) :
    regOf (BitVec.ofBool a ++ r ++ BitVec.ofBool toMem ++ low) 12 = ⟨a, r⟩ ∧
      bitOf (BitVec.ofBool a ++ r ++ BitVec.ofBool toMem ++ low) 11 = toMem := by
  constructor <;> simp (disch := rfl) [regOf, bitOf, field, extractLsb'_append, getLsbD_append,
    -BitVec.getLsbD_eq_getElem]

/-- Settles O30: CMP2, CHK2 and CAS by their shapes, MOVES by its direction bit; the registers of CAS and MOVES are
fields of the word consumed first. -/
theorem boundsAndSwapComplete : Obligations.BoundsAndSwapComplete := by
  refine ⟨fun p mem ss n ea a r s w _ ahead code clean => ?_, fun p mem ea hi du dc mid s _ ahead clean => ?_,
    fun ss n ea a toMem r low s _ code ahead clean => ?_⟩
  · have answer (op) : emitBounds op ss ea ⟨a, r⟩ s = _ := emitBounds_accepted ahead code clean
    fin_cases mem <;> exact answer _
  · have answer (code) (size : sizeCas code = some p.2) : emitCas code ea s = _ := emitCas_accepted size ahead clean
    obtain ⟨dc_field, du_field⟩ := casWord_fields hi du dc mid
    rw [dc_field, du_field] at answer
    fin_cases mem
    · exact answer 1 rfl
    · exact answer 2 rfl
    · exact answer 3 rfl
  · obtain ⟨register, direction⟩ := movesWord_fields a toMem r low
    rw [exec, execMoves, code, withSize_some, pull16_of_wordAhead ahead]
    simp only [register, direction]
    cases toMem
    · exact emitEaTo_accepted clean
    · exact emitToEa_accepted clean

/-- Settles O31: CAS2's meaning is to raise the refusal. -/
theorem cas2IsRefused : Obligations.Cas2IsRefused := fun _ _ clean => raiseError_of_none clean

/-- Settles O33: each form reads its mask or displacement word, MOVEM its address after it. -/
theorem movemAndMovepComplete : Obligations.MovemAndMovepComplete := by
  rintro long n s w rfl clean ahead
  have pulled := pull16_of_wordAhead ahead
  have ends {op size o0 o1 x} : emit op size o0 o1 x (skipWords 1 s) = accepted op size o0 o1 x (skipWords 1 s) :=
    emit_accepted clean
  refine ⟨fun ea resolved => ⟨?_, ?_⟩, fun dx ay => ⟨?_, ?_⟩⟩
  · rw [exec, execMovemStore, pulled]
    exact emit_accepted resolved
  · rw [exec, execMovemLoad, pulled]
    exact emitEaTo_accepted resolved
  · rw [exec, execMovep, pullDisp16_of_some ahead]
    exact ends
  · rw [exec, execMovep, pullDisp16_of_some ahead]
    exact ends

end Sys2Proof.Machine

/-! MOVE and MOVEA where no error arises (41_move.md): the size code's size is the hint of each address, and the second
address starts where the first one ended. -/
namespace Sys2Proof.Machine

/-! The shapes. -/

section
variable {code : BitVec 2} {n : Nat} {s : State}

theorem emitMove_accepted {src dst : EaField} (size : sizeMove code = some n)
    (clean : (resolveEa dst n (resolveEa src n s).2).2.err = none) :
    emitMove code src dst s = accepted .MOVE n (some (resolveEa src n s).1)
      (some (resolveEa dst n (resolveEa src n s).2).1) none (resolveEa dst n (resolveEa src n s).2).2 := by
  rw [emitMove, size, withSize_some]
  exact emit_accepted clean

theorem emitMovea_accepted {an : RegNum} {ea : EaField} (size : sizeMove code = some n)
    (clean : (resolveEa ea n s).2.err = none) :
    emitMovea code an ea s =
      accepted .MOVEA n (some (resolveEa ea n s).1) (some (.ar an)) none (resolveEa ea n s).2 := by
  rw [emitMovea, size, withSize_some]
  exact emitEaTo_accepted clean

end

/-! The forms. -/

/-- Settles O32: each form is `emitMove` or `emitMovea` at its group's size code, 1 for a byte, 2 for a long and 3 for
a word. -/
theorem moveFormsComplete : Obligations.MoveFormsComplete := by
  refine ⟨fun p mem src dst s _ _ clean => ?_, fun p mem an ea s _ clean => ?_⟩
  · have answer (code) (size : sizeMove code = some p.2) : emitMove code src dst s = _ :=
      emitMove_accepted size clean
    fin_cases mem
    · exact answer 1 rfl
    · exact answer 2 rfl
    · exact answer 3 rfl
  · have answer (code) (size : sizeMove code = some p.2) : emitMovea code an ea s = _ :=
      emitMovea_accepted size clean
    fin_cases mem
    · exact answer 2 rfl
    · exact answer 3 rfl

end Sys2Proof.Machine

/-! The answers of the forms of one effective address and of MOVEC where no error arises (42_group4.md, 43_group5.md,
45_arith_logic.md): each shape's answer once, then the forms of each shape. -/
namespace Sys2Proof.Machine

/-! The shapes, with the address the resolver answers (`o`) and the cursor after it (`t`). -/

section
variable {op opQ opR : Operation} {size n : Nat} {r o : Operand} {x : Option Extra} {ss : BitVec 2} {ea : EaField}
  {s t : State} {w : Word} {dn dq dr : RegNum}

theorem emitEa_of_resolved (resolved : resolveEa ea n s = (o, t)) (clean : t.err = none) :
    emitEa op size n ea x s = accepted op size (some o) none x t := by
  rw [emitEa, resolved]
  exact emit_accepted clean

theorem emitEaTo_of_resolved (resolved : resolveEa ea n s = (o, t)) (clean : t.err = none) :
    emitEaTo op n ea r s = accepted op n (some o) (some r) none t := by
  rw [emitEaTo, resolved]
  exact emit_accepted clean

theorem emitToEa_of_resolved (resolved : resolveEa ea n s = (o, t)) (clean : t.err = none) :
    emitToEa op n r ea s = accepted op n (some r) (some o) none t := by
  rw [emitToEa, resolved]
  exact emit_accepted clean

theorem emitSizedEa_of_size (code : sizeStd ss = some n) : emitSizedEa op ss ea s = emitEa op n n ea none s := by
  rw [emitSizedEa, code, withSize_some]

theorem emitQuick_of_size {data : BitVec 3} (code : sizeStd ss = some n) :
    emitQuick op data ss ea s = emitToEa op n (.imm8 (quick data)) ea s := by
  rw [emitQuick, code, withSize_some]

/-- The direction bit clear: from the address to the register. -/
theorem emitDnEa_toDn (code : sizeStd ss = some n) : emitDnEa op dn false ss ea s = emitEaTo op n ea (.dr dn) s := by
  rw [emitDnEa, code, withSize_some, if_neg Bool.false_ne_true]

/-- The direction bit set: from the register to the address. -/
theorem emitDnEa_toEa (code : sizeStd ss = some n) : emitDnEa op dn true ss ea s = emitToEa op n (.dr dn) ea s := by
  rw [emitDnEa, code, withSize_some, if_pos rfl]

theorem emitDivL32_of_eq (same : dr = dq) :
    emitDivL32 opQ opR ea dq dr s = emitEaTo opQ 4 ea (.dr dq) (pull16 s).2 := if_pos same

theorem emitDivL32_of_ne (differ : dr ≠ dq) :
    emitDivL32 opQ opR ea dq dr s = emitEaTo opR 4 ea (.dPair dr dq) (pull16 s).2 := if_neg differ

end

/-! The forms. -/

/-- Settles O22: each of these forms is one `emit` on the cursor as it is. -/
theorem fixedFormsComplete : Obligations.FixedFormsComplete := by
  intro p mem s clean
  have answer (op) : emit op 0 none none none s = accepted op 0 none none none s := emit_accepted clean
  fin_cases mem <;> exact answer _

/-- The register and the control-register number of MOVEC's word. -/
theorem movecWord_fields (a : Bool) (n : RegNum) (v : BitVec 12) :
    regOf (BitVec.ofBool a ++ n ++ v) 12 = ⟨a, n⟩ ∧ field (BitVec.ofBool a ++ n ++ v) 0 12 = v := by
  constructor <;> simp (disch := rfl) [regOf, bitOf, field, extractLsb'_append, getLsbD_append,
    -BitVec.getLsbD_eq_getElem]

/-- Settles O25: both directions emit the two fields of the one word they read. -/
theorem controlRegisterMovesComplete : Obligations.ControlRegisterMovesComplete := by
  intro s a n v clean ahead
  obtain ⟨register, control⟩ := movecWord_fields a n v
  have ends {o0 o1} : emit .MOVEC 4 o0 o1 none (skipWords 1 s) = accepted .MOVEC 4 o0 o1 none (skipWords 1 s) :=
    emit_accepted clean
  constructor
  · rw [exec, execMovecFrom, pull16_of_wordAhead ahead]
    simp only [register, control]
    exact ends
  · rw [exec, execMovecTo, pull16_of_wordAhead ahead]
    simp only [register, control]
    exact ends

/-- Settles O26: each of these forms is `emitEa` with its size for a hint. -/
theorem singleAddressFormsComplete : Obligations.SingleAddressFormsComplete := by
  intro p mem ea s _ clean
  have answer (op) : emitEa op p.2.2 p.2.2 ea none s = _ := emitEa_of_resolved rfl clean
  fin_cases mem <;> exact answer _

/-- Settles O27: the five forms have one shape. -/
theorem sizedAddressFormsComplete : Obligations.SizedAddressFormsComplete := by
  intro p mem ss n ea s _ code clean
  have answer (op) : emitSizedEa op ss ea s = _ := (emitSizedEa_of_size code).trans (emitEa_of_resolved rfl clean)
  fin_cases mem <;> exact answer _

/-- Settles O34: past the guarded word each form is `emitEaTo`; the 32-bit divisions choose their tag and their
registers by whether the two registers are one. -/
theorem longMultiplyDivideComplete : Obligations.LongMultiplyDivideComplete := by
  intro ea s w o t _ ahead resolved clean
  have toRegisters (op r) : emitEaTo op 4 ea r (pull16 s).2 = accepted op 4 (some o) (some r) none t := by
    rw [pull16_of_wordAhead ahead]
    exact emitEaTo_of_resolved resolved clean
  have division32 (opQ opR q r) : emitDivL32 opQ opR ea q r s =
      if r = q then accepted opQ 4 (some o) (some (.dr q)) none t
      else accepted opR 4 (some o) (some (.dPair r q)) none t := by
    split
    next same => exact (emitDivL32_of_eq same).trans (toRegisters _ _)
    next differ => exact (emitDivL32_of_ne differ).trans (toRegisters _ _)
  exact ⟨fun l b h => ⟨toRegisters _ _, toRegisters _ _⟩,
    fun q r => ⟨toRegisters _ _, toRegisters _ _, division32 _ _ _ _, division32 _ _ _ _⟩⟩

/-- Settles O35: each of these forms is `emitEaTo`, at a fixed size, at the size of its word bit or at that of its
size code. -/
theorem addressToRegisterComplete : Obligations.AddressToRegisterComplete := by
  intro ea s n o t _ resolved clean
  have answer (op r) : emitEaTo op n ea r s = accepted op n (some o) (some r) none t :=
    emitEaTo_of_resolved resolved clean
  refine ⟨?long, ?word, ?wordOrLong, ?sizeCode⟩
  case long =>
    rintro rfl r
    exact ⟨answer _ _, answer _ _⟩
  case word =>
    rintro rfl
    exact ⟨fun r => ⟨answer _ _, answer _ _, answer _ _, answer _ _, answer _ _⟩, answer _ _, answer _ _⟩
  case wordOrLong =>
    rintro long r rfl
    exact ⟨answer _ _, answer _ _, answer _ _⟩
  case sizeCode =>
    intro ss r code
    rw [exec, execCmp, code, withSize_some]
    exact answer _ _

/-- Settles O36: these forms are `emitToEa`, but for Scc, whose one operand is the address, and for the direction from
the address of OR, SUB, AND and ADD. -/
theorem registerToAddressComplete : Obligations.RegisterToAddressComplete := by
  intro ea s n o t _ resolved clean
  have toEa (op r) : emitToEa op n r ea s = accepted op n (some r) (some o) none t :=
    emitToEa_of_resolved resolved clean
  have toDn (op r) : emitEaTo op n ea r s = accepted op n (some o) (some r) none t :=
    emitEaTo_of_resolved resolved clean
  refine ⟨?statusRegister, ?condition, fun ss code => ⟨fun r => ?eor, fun d => ?quick, fun p mem r => ?directions⟩⟩
  case statusRegister =>
    rintro rfl
    exact ⟨toEa _ _, toEa _ _⟩
  case condition =>
    rintro rfl c
    exact emitEa_of_resolved resolved clean
  case eor =>
    rw [exec, execEor, code, withSize_some]
    exact toEa _ _
  case quick => exact ⟨(emitQuick_of_size code).trans (toEa _ _), (emitQuick_of_size code).trans (toEa _ _)⟩
  case directions =>
    have answer (op) : emitDnEa op r false ss ea s = _ ∧ emitDnEa op r true ss ea s = _ :=
      ⟨(emitDnEa_toDn code).trans (toDn op (.dr r)), (emitDnEa_toEa code).trans (toEa op (.dr r))⟩
    fin_cases mem <;> exact answer _

end Sys2Proof.Machine

/-! The answers of BRA, BSR, Bcc and DBcc where no error arises (43_group5.md R163, 44_group6_7.md R171 to R173): the
displacement by its byte, each of its three cases once, then the forms. -/
namespace Sys2Proof.Machine

/-! The displacement and the shape. -/

section
variable {op : Operation} {x : Option Extra} {disp : Byte} {n : Nat} {d : Long} {s t : State} {w lo : Word}

theorem branchDisp_word (ahead : s.wordAhead 0 = some w) :
    branchDisp 0x00 s = ((2, w.signExtend 32), skipWords 1 s) := by
  rw [branchDisp, if_pos rfl, pullDisp16_of_some ahead]

theorem branchDisp_long (high : s.wordAhead 0 = some w) (low : s.wordAhead 1 = some lo) :
    branchDisp 0xFF s = ((4, w ++ lo), skipWords 2 s) := by
  rw [branchDisp, if_neg (by decide), if_pos rfl, pull32_of_wordAhead high low]

theorem branchDisp_byte (notWord : disp ≠ 0x00) (notLong : disp ≠ 0xFF) :
    branchDisp disp s = ((1, disp.signExtend 32), s) := by
  rw [branchDisp, if_neg notWord, if_neg notLong]

/-- A branch from the size, the displacement and the cursor that its byte gives. -/
theorem emitBranch_of_branchDisp (target : branchDisp disp s = ((n, d), t)) (clean : t.err = none) :
    emitBranch op disp x s = accepted op n (some (.pcDisp 2 ⟨d, 0, none, none⟩)) none x t := by
  rw [emitBranch, target]
  exact emit_accepted clean

end

/-! The forms. -/

/-- Settles O38: BRA, BSR and Bcc are `emitBranch`, which answers by the three cases of the displacement byte; DBcc
reads its displacement word and emits. -/
theorem branchFormsComplete : Obligations.BranchFormsComplete := by
  intro s clean
  refine ⟨fun c p mem => ?branch, fun c n w ahead => ?dbcc⟩
  case branch =>
    have answer (op x) : (∀ b, b ≠ 0x00 → b ≠ 0xFF → emitBranch op b x s = _) ∧
        (∀ w, s.wordAhead 0 = some w → emitBranch op 0x00 x s = _) ∧
        (∀ hi lo, s.wordAhead 0 = some hi → s.wordAhead 1 = some lo → emitBranch op 0xFF x s = _) :=
      ⟨fun _ notWord notLong => emitBranch_of_branchDisp (branchDisp_byte notWord notLong) clean,
        fun _ ahead => emitBranch_of_branchDisp (branchDisp_word ahead) clean,
        fun _ _ high low => emitBranch_of_branchDisp (branchDisp_long high low) clean⟩
    fin_cases mem <;> exact answer _ _
  case dbcc =>
    rw [exec, execDbcc, pullDisp16_of_some ahead]
    exact emit_accepted clean

end Sys2Proof.Machine

/-! The answers of the pair forms where no error arises (45_arith_logic.md): two registers or two addresses by the R/M
bit, each shape's answer once, then the forms of each shape. -/
namespace Sys2Proof.Machine

/-! The shapes. -/

section
variable {op : Operation} {size n : Nat} {x y : RegNum} {mem : Bool} {ss : BitVec 2} {w : Word} {s : State}

/-- The R/M bit chooses the operand's constructor, before any register is given. -/
theorem rrOperand_eq_ite (mem : Bool) : rrOperand mem = (if mem then .arDec else .dr) := by
  cases mem
  · rfl
  · rfl

theorem emitPair_accepted (clean : s.err = none) :
    emitPair op size x mem y s = accepted op size (some (rrOperand mem y)) (some (rrOperand mem x)) none s :=
  emit_accepted clean

theorem emitSizedPair_of_size (code : sizeStd ss = some n) :
    emitSizedPair op x ss mem y s = emitPair op n x mem y s := by
  rw [emitSizedPair, code, withSize_some]

theorem emitAdjust_accepted (clean : s.err = none) (ahead : s.wordAhead 0 = some w) :
    emitAdjust op x mem y s = accepted op 0 (some (rrOperand mem y)) (some (rrOperand mem x)) (some (.packAdjust w))
      (skipWords 1 s) := by
  rw [emitAdjust, pull16_of_wordAhead ahead]
  exact emit_accepted clean

end

/-! The forms. -/

/-- Settles O37: the decimal forms are pairs of size 1, SUBX and ADDX pairs of the size code's size, PACK and UNPK
pairs with the word they read; CMPM has its two addresses fixed. -/
theorem pairFormsComplete : Obligations.PairFormsComplete := by
  refine fun x y mem s clean => ⟨fun f operand => ?_, fun ss n code => ?_⟩
  · obtain rfl : f = rrOperand mem := operand.trans (rrOperand_eq_ite mem).symm
    have sized {op ss n} (code : sizeStd ss = some n) : emitSizedPair op x ss mem y s = _ :=
      (emitSizedPair_of_size code).trans (emitPair_accepted clean)
    exact ⟨emitPair_accepted clean, emitPair_accepted clean, fun _ _ code => ⟨sized code, sized code⟩,
      fun _ ahead => ⟨emitAdjust_accepted clean ahead, emitAdjust_accepted clean ahead⟩⟩
  · rw [exec, execCmpm, code, withSize_some]
    exact emit_accepted clean

end Sys2Proof.Machine

/-! The answers of group 1110 where no error arises (46_group_e.md R199 to R206, R215 to R222): each shape's answer
once, then the forms of each shape. -/
namespace Sys2Proof.Machine

/-! The shapes, with the address the resolver answers (`o`) and the cursor after it (`t`). -/

section
variable {op : Operation} {n : Nat} {ea : EaField} {s t : State} {w : Word} {o : Operand} {cnt : BitVec 3}
  {ss : BitVec 2} {dy : RegNum}

theorem emitBf_accepted (ahead : s.wordAhead 0 = some w) (resolved : resolveEa ea 0 (skipWords 1 s) = (o, t))
    (clean : t.err = none) : emitBf op ea s = accepted op 0 (some o) none (some (bfExtra w)) t := by
  rw [emitBf, pull16_of_wordAhead ahead]
  simp only [resolved]
  exact emit_accepted clean

theorem emitBfToDn_accepted (ahead : s.wordAhead 0 = some w) (resolved : resolveEa ea 0 (skipWords 1 s) = (o, t))
    (clean : t.err = none) :
    emitBfToDn op ea s = accepted op 0 (some o) (some (.dr (field w 12 3))) (some (bfExtra w)) t := by
  rw [emitBfToDn, pull16_of_wordAhead ahead]
  simp only [resolved]
  exact emit_accepted clean

/-- BFINS alone has its register for a source. -/
theorem execBfins_accepted (ahead : s.wordAhead 0 = some w) (resolved : resolveEa ea 0 (skipWords 1 s) = (o, t))
    (clean : t.err = none) :
    execBfins ea s = accepted .BFINS 0 (some (.dr (field w 12 3))) (some o) (some (bfExtra w)) t := by
  rw [execBfins, pull16_of_wordAhead ahead]
  simp only [resolved]
  exact emit_accepted clean

/-- The i/r bit set: the count is in a register. -/
theorem emitShift_register (code : sizeStd ss = some n) (clean : s.err = none) :
    emitShift op cnt ss true dy s = accepted op n (some (.dr cnt)) (some (.dr dy)) none s := by
  rw [emitShift, code, withSize_some, if_pos rfl]
  exact emit_accepted clean

/-- The i/r bit clear: the count is the quick constant of its field. -/
theorem emitShift_quick (code : sizeStd ss = some n) (clean : s.err = none) :
    emitShift op cnt ss false dy s = accepted op n (some (.imm8 (quick cnt))) (some (.dr dy)) none s := by
  rw [emitShift, code, withSize_some, if_neg Bool.false_ne_true]
  exact emit_accepted clean

end

/-! The forms. -/

/-- The register of a bitfield's extension word. -/
theorem bitfieldWord_register (z : BitVec 1) (r : RegNum) (l : BitVec 12) : field (z ++ r ++ l) 12 3 = r := by
  simp (disch := rfl) [field, extractLsb'_append]

/-- Settles O39: the four forms without a register have one shape, the three with a destination register another, and
BFINS the second with its operands exchanged; the register is a field of the extension word. -/
theorem bitfieldFormsComplete : Obligations.BitfieldFormsComplete := by
  intro ea s z r l w o t _ word ahead resolved clean
  have register : field w 12 3 = r := word ▸ bitfieldWord_register z r l
  refine ⟨fun p mem => ?addressAlone, fun p mem => ?toRegister, ?insert⟩
  case addressAlone =>
    have answer (op) : emitBf op ea s = _ := emitBf_accepted ahead resolved clean
    fin_cases mem <;> exact answer _
  case toRegister =>
    have answer (op) : emitBfToDn op ea s = _ := emitBfToDn_accepted ahead resolved clean
    rw [register] at answer
    fin_cases mem <;> exact answer _
  case insert => exact register ▸ execBfins_accepted ahead resolved clean

/-- Settles O40: the eight forms have one shape, which chooses its count by the i/r bit. -/
theorem registerShiftsComplete : Obligations.RegisterShiftsComplete := by
  intro p mem c ss n y s clean code
  have answer (op) : emitShift op c ss true y s = _ ∧ emitShift op c ss false y s = _ :=
    ⟨emitShift_register code clean, emitShift_quick code clean⟩
  fin_cases mem <;> exact answer _

end Sys2Proof.Machine

/-! The answers of the FPU general operations where no error arises (47_fpu_ops.md, 48_fpu_ops2.md): the one shape by
its R/M bit, then every operation as one use of it. -/
namespace Sys2Proof.Machine

/-! The shape. -/

section
variable {op : Operation} {ea : EaField} {src : BitVec 3} {dst : Option Operand} {o : Operand} {f : FPFormat}
  {s t : State} {w : Word}

/-- The R/M bit clear: the source is a register. -/
theorem emitFpGeneral_register (clean : s.err = none) (ahead : s.wordAhead 0 = some w) :
    emitFpGeneral op ea false src dst s = accepted op 10 (some (.fr src)) dst none (skipWords 1 s) := by
  rw [emitFpGeneral, pull16_of_wordAhead ahead]
  exact emit_accepted clean

/-- The R/M bit set: the source code's format gives the hint under which the address is resolved. -/
theorem emitFpGeneral_format (ahead : s.wordAhead 0 = some w) (format : fmtIn src = some f)
    (resolved : resolveEa ea (formatSize f) (skipWords 1 s) = (o, t)) (clean : t.err = none) :
    emitFpGeneral op ea true src dst s = accepted op (formatSize f) (some o) dst (some (.fpFormat f)) t := by
  rw [emitFpGeneral, pull16_of_wordAhead ahead, if_pos rfl, format]
  simp only [resolved]
  exact emit_accepted clean

/-- An instruction that is `emitFpGeneral` of its R/M bit answers as a general operation. -/
theorem fpuAnswers_of_exec_eq {i : Bool → Instr} (clean : s.err = none) (ahead : s.wordAhead 0 = some w)
    (shape : ∀ rm, exec (i rm) s = emitFpGeneral op ea rm src dst s) : fpuAnswers i op dst ea src s :=
  ⟨(shape false).trans (emitFpGeneral_register clean ahead), fun _ _ _ format resolved clean =>
    (shape true).trans (emitFpGeneral_format ahead format resolved clean)⟩

end

/-! The operations. -/

/-- Settles O41: FTST, FSINCOS and each of the 52 others is `emitFpGeneral` with its own tag and destination. -/
theorem fpuGeneralOperationsComplete : Obligations.FpuGeneralOperationsComplete := by
  intro ea src s w clean ahead
  refine ⟨fun p mem d => ?oneRegister, fun fs fc => ?sincos, ?test⟩
  case oneRegister => fin_cases mem <;> exact fpuAnswers_of_exec_eq clean ahead fun _ => rfl
  case sincos => exact fpuAnswers_of_exec_eq clean ahead fun _ => rfl
  case test => exact fpuAnswers_of_exec_eq clean ahead fun _ => rfl

end Sys2Proof.Machine

/-! The answers of FMOVECR, of FMOVE to an address and of the moves of FPU control and data registers, where no error
arises (47_fpu_ops.md R225, 49_fpu_control.md R280 to R286): past the command word each reads at most one address. -/
namespace Sys2Proof.Machine

/-! The shapes. -/

section
variable {ea : EaField} {list fmt : BitVec 3} {fpm : RegNum} {k : BitVec 7} {o : Operand} {s t : State} {w : Word}

theorem emitToCtl_accepted (ahead : s.wordAhead 0 = some w) (resolved : resolveEa ea 4 (skipWords 1 s) = (o, t))
    (clean : t.err = none) :
    emitToCtl list ea s = accepted .FMOVE 4 (some o) (some (.controlReg (list.setWidth 12))) none t := by
  rw [emitToCtl, pull16_of_wordAhead ahead]
  exact emitEaTo_of_resolved resolved clean

theorem emitFromCtl_accepted (ahead : s.wordAhead 0 = some w) (resolved : resolveEa ea 4 (skipWords 1 s) = (o, t))
    (clean : t.err = none) :
    emitFromCtl list ea s = accepted .FMOVE 4 (some (.controlReg (list.setWidth 12))) (some o) none t := by
  rw [emitFromCtl, pull16_of_wordAhead ahead]
  exact emitToEa_of_resolved resolved clean

theorem execFmoveToEa_accepted (ahead : s.wordAhead 0 = some w)
    (resolved : resolveEa ea (formatSize (fmtOut fmt k)) (skipWords 1 s) = (o, t)) (clean : t.err = none) :
    execFmoveToEa ea fmt fpm k s = accepted .FMOVE (formatSize (fmtOut fmt k)) (some (.fr fpm)) (some o)
      (some (.fpFormat (fmtOut fmt k))) t := by
  rw [execFmoveToEa, pull16_of_wordAhead ahead]
  simp only [resolved]
  exact emit_accepted clean

theorem execFmovemToCtl_accepted (ahead : s.wordAhead 0 = some w) (nonempty : list ≠ 0)
    (resolved : resolveEa ea (4 * popcount3 list) (skipWords 1 s) = (o, t)) (clean : t.err = none) :
    execFmovemToCtl ea list s = accepted .FMOVEM 4 (some o) (some (.controlReg (list.setWidth 12))) none t := by
  rw [execFmovemToCtl, pull16_of_wordAhead ahead, if_neg nonempty]
  simp only [resolved]
  exact emit_accepted clean

theorem execFmovemFromCtl_accepted (ahead : s.wordAhead 0 = some w) (nonempty : list ≠ 0)
    (resolved : resolveEa ea (4 * popcount3 list) (skipWords 1 s) = (o, t)) (clean : t.err = none) :
    execFmovemFromCtl ea list s = accepted .FMOVEM 4 (some (.controlReg (list.setWidth 12))) (some o) none t := by
  rw [execFmovemFromCtl, pull16_of_wordAhead ahead, if_neg nonempty]
  simp only [resolved]
  exact emit_accepted clean

/-- The number of registers of a control-register list counts its set bits. -/
theorem popcount3_eq_length (list : BitVec 3) :
    popcount3 list = ((List.range 3).filter fun i => list.getLsbD i).length := by
  simp [popcount3, ← List.countP_eq_length_filter, List.range_succ, List.countP_cons,
    Bool.toNat, Bool.cond_eq_ite, Nat.add_comm, Nat.add_left_comm]

end

/-! The forms. -/

/-- Settles O44: the forms with a control register or a list by the shape of their direction, and FMOVECR by the one
word it reads. -/
theorem fpuMovesComplete : Obligations.FpuMovesComplete := by
  intro ea s w clean ahead
  have pulled := pull16_of_wordAhead ahead
  refine ⟨fun d off => ?constant, fun _ _ _ _ _ => execFmoveToEa_accepted ahead, fun o t resolved clean => ?control,
    fun l n o t nonempty registers resolved clean => ?controlList, fun mode l o t resolved clean => ?dataList⟩
  case constant =>
    rw [exec, execFmovecr, pulled]
    exact emit_accepted clean
  case control =>
    have toCtl (l) : emitToCtl l ea s = _ := emitToCtl_accepted ahead resolved clean
    have fromCtl (l) : emitFromCtl l ea s = _ := emitFromCtl_accepted ahead resolved clean
    refine ⟨fun p mem => ?_, fun p mem => ?_⟩
    · fin_cases mem <;> exact toCtl _
    · fin_cases mem <;> exact fromCtl _
  case controlList =>
    rw [registers, ← popcount3_eq_length] at resolved
    exact ⟨execFmovemToCtl_accepted ahead nonempty resolved clean,
      execFmovemFromCtl_accepted ahead nonempty resolved clean⟩
  case dataList =>
    constructor
    · rw [exec, execFmovemToFp, pulled]
      exact emitEaTo_of_resolved resolved clean
    · rw [exec, execFmovemFromFp, pulled]
      exact emitToEa_of_resolved resolved clean

end Sys2Proof.Machine

/-! The answers of the FPU condition forms where no error arises (49_fpu_control.md R287 to R294): the condition is the
low field of the word read first or of the opcode word, and what an instruction reads after its condition word starts
one word further on. -/
namespace Sys2Proof.Machine

/-! The condition word and the shapes. -/

/-- The condition of a condition word does not depend on the ten bits above it. -/
theorem fpCondExtra_append (hi : BitVec 10) (c : BitVec 6) : fpCondExtra (hi ++ c) = .fpCondCode (fcondOf c) := by
  rw [fpCondExtra, field, BitVec.extractLsb'_append_eq_right]

section
variable {dn : RegNum} {ea : EaField} {cond : BitVec 6} {o : Operand} {s t : State} {w2 w lo : Word}

theorem wordAhead_skipWords_one {k : Nat} (ahead : s.wordAhead (k + 1) = some w) :
    (skipWords 1 s).wordAhead k = some w := by
  rw [wordAhead_skipWords, Nat.add_comm, ahead]

theorem execFtrapcc_accepted (clean : s.err = none) (first : s.wordAhead 0 = some w2) :
    execFtrapcc s = accepted .FTRAPCC 0 none none (some (fpCondExtra w2)) (skipWords 1 s) := by
  rw [execFtrapcc, pull16_of_wordAhead first]
  exact emit_accepted clean

theorem execFscc_accepted (first : s.wordAhead 0 = some w2) (resolved : resolveEa ea 1 (skipWords 1 s) = (o, t))
    (clean : t.err = none) : execFscc ea s = accepted .FSCC 1 (some o) none (some (fpCondExtra w2)) t := by
  rw [execFscc, pull16_of_wordAhead first]
  exact emitEa_of_resolved resolved clean

theorem execFdbcc_accepted (clean : s.err = none) (first : s.wordAhead 0 = some w2) (next : s.wordAhead 1 = some w) :
    execFdbcc dn s = accepted .FDBCC 2 (some (.dr dn)) (some (.pcDisp 4 ⟨w.signExtend 32, 0, none, none⟩))
      (some (fpCondExtra w2)) (skipWords 2 s) := by
  simp only [execFdbcc, pull16_of_wordAhead first, pullDisp16_of_some (wordAhead_skipWords_one next),
    skipWords_skipWords]
  exact emit_accepted clean

theorem execFtrapccW_accepted (clean : s.err = none) (first : s.wordAhead 0 = some w2)
    (next : s.wordAhead 1 = some w) :
    execFtrapccW s =
      accepted .FTRAPCC 2 (some (.imm16 w)) none (some (fpCondExtra w2)) (skipWords 2 s) := by
  simp only [execFtrapccW, pull16_of_wordAhead first, pull16_of_wordAhead (wordAhead_skipWords_one next),
    skipWords_skipWords]
  exact emit_accepted clean

theorem execFtrapccL_accepted (clean : s.err = none) (first : s.wordAhead 0 = some w2)
    (high : s.wordAhead 1 = some w) (low : s.wordAhead 2 = some lo) :
    execFtrapccL s =
      accepted .FTRAPCC 4 (some (.imm32 (w ++ lo))) none (some (fpCondExtra w2)) (skipWords 3 s) := by
  simp only [execFtrapccL, pull16_of_wordAhead first,
    pull32_of_wordAhead (wordAhead_skipWords_one high) (wordAhead_skipWords_one low), skipWords_skipWords]
  exact emit_accepted clean

theorem execFbccW_accepted (clean : s.err = none) (ahead : s.wordAhead 0 = some w) :
    execFbccW cond s = accepted .FBCC 2 (some (.pcDisp 2 ⟨w.signExtend 32, 0, none, none⟩)) none
      (some (.fpCondCode (fcondOf cond))) (skipWords 1 s) := by
  rw [execFbccW, pullDisp16_of_some ahead]
  exact emit_accepted clean

theorem execFbccL_accepted (clean : s.err = none) (high : s.wordAhead 0 = some w) (low : s.wordAhead 1 = some lo) :
    execFbccL cond s = accepted .FBCC 4 (some (.pcDisp 2 ⟨w ++ lo, 0, none, none⟩)) none
      (some (.fpCondCode (fcondOf cond))) (skipWords 2 s) := by
  rw [execFbccL, pull32_of_wordAhead high low]
  exact emit_accepted clean

end

/-! The forms. -/

/-- Settles O45: five forms take their condition from the condition word's low field and FBcc from its opcode word;
FNOP is one `emit` past the zero word. -/
theorem fpuConditionFormsComplete : Obligations.FpuConditionFormsComplete := by
  intro s clean
  refine ⟨fun hi c first => ?conditionWord, emit_accepted clean, fun c w ahead => ?branch⟩
  case conditionWord =>
    rw [← fpCondExtra_append hi c]
    exact ⟨execFtrapcc_accepted clean first,
      fun _ _ _ resolved clean => execFscc_accepted first resolved clean,
      fun w next => ⟨fun _ => execFdbcc_accepted clean first next, execFtrapccW_accepted clean first next,
        fun _ low => execFtrapccL_accepted clean first next low⟩⟩
  case branch => exact ⟨execFbccW_accepted clean ahead, fun _ low => execFbccL_accepted clean ahead low⟩

end Sys2Proof.Machine

/-! An error that any read of a builder records ends its call (60_exceptions.md R301, R302): every builder makes the
reads of its form and ends at the cursor after them. -/
namespace Sys2Proof.Machine

/-- The builder's answer `r` from the state `s` is one for the reads `rs`: an error recorded after them is the result,
at the cursor after them. -/
def FailsAfter (rs : List Read) (s : State) (r : StepResult) : Prop :=
  ∀ k, (runReads rs s).err = some k → r = failed k (runReads rs s)

/-- An error recorded after the first reads is still recorded after all of them (10_state.md R6). -/
theorem runReads_err_of_take {rs : List Read} {s : State} {j : Nat} {k : ErrorKind}
    (e : (runReads (rs.take j) s).err = some k) : (runReads rs s).err = some k := by
  obtain ⟨-, -, sticky⟩ := runReads_keeps (rs.drop j) (runReads (rs.take j) s)
  rw [← List.take_append_drop j rs, runReads_append]
  exact sticky k e

/-! The shapes. -/

section
variable {rs : List Read} {s t : State}

/-- A builder that ends its call at the cursor after its reads. -/
theorem emit_failsAfter {op : Operation} {size : Nat} {o0 o1 : Option Operand} {x : Option Extra}
    (cursor : t = runReads rs s) : FailsAfter rs s (emit op size o0 o1 x t) :=
  cursor ▸ fun _ => emit_failed

theorem raiseError_failsAfter {e : ErrorKind} (cursor : t = runReads rs s) : FailsAfter rs s (raiseError e t) :=
  cursor ▸ fun _ => raiseError_failed

theorem FailsAfter.ite {p : Prop} [Decidable p] {a b : StepResult} (ha : FailsAfter rs s a) (hb : FailsAfter rs s b) :
    FailsAfter rs s (if p then a else b) := by
  split
  · exact ha
  · exact hb

/-- A builder whose reads depend on the choice it makes. -/
theorem FailsAfter.ite_reads {p : Prop} [Decidable p] {rs' : List Read} {a b : StepResult} (ha : FailsAfter rs s a)
    (hb : FailsAfter rs' s b) : FailsAfter (if p then rs else rs') s (if p then a else b) := by
  split
  · exact ha
  · exact hb

/-- A size code that names no size ends the call before any read (30_encoding.md R73). -/
theorem withSize_failsAfter {size : Option Nat} {f : Nat → List Read} {k : Nat → StepResult}
    (h : ∀ n, FailsAfter (f n) s (k n)) : FailsAfter (sizedReads size f) s (withSize size s k) := by
  cases size with
  | none => exact raiseError_failsAfter rfl
  | some n => exact h n

/-- A builder with a size that reads no word ends at its own cursor whether or not the code names a size. -/
theorem withSize_failsAfter_nil {size : Option Nat} {k : Nat → StepResult} (h : ∀ n, FailsAfter [] s (k n)) :
    FailsAfter [] s (withSize size s k) := by
  cases size with
  | none => exact raiseError_failsAfter rfl
  | some n => exact h n

theorem branchDisp_cursor (disp : Byte) (s : State) : (branchDisp disp s).2 = runReads (branchReads disp) s := by
  unfold branchDisp branchReads
  split
  · rfl
  · split <;> rfl

theorem emitBranch_failsAfter (op : Operation) (disp : Byte) (x : Option Extra) (s : State) :
    FailsAfter (branchReads disp) s (emitBranch op disp x s) :=
  emit_failsAfter (branchDisp_cursor disp s)

theorem emitFpGeneral_failsAfter (op : Operation) (ea : EaField) (rm : Bool) (src : BitVec 3) (dst : Option Operand)
    (s : State) : FailsAfter (fpReads ea rm src) s (emitFpGeneral op ea rm src dst s) := by
  refine FailsAfter.ite_reads ?memory (emit_failsAfter rfl)
  cases fmtIn src with
  | none => exact raiseError_failsAfter rfl
  | some f => exact emit_failsAfter rfl

end

/-! Every meaning. -/

/-- Every meaning makes the reads of its form. One that the last case takes makes them one after the other and then ends
by one `emit`. -/
theorem exec_failsAfter (i : Instr) (s : State) : FailsAfter (readsOf i) s (exec i s) := by
  cases i with
  -- the call is refused
  | cas2 _ => exact raiseError_failsAfter rfl
  -- the operands stand in the order, or under the tag, that a field chooses
  | movep _ _ _ _ | divuL32 _ _ _ | divsL32 _ _ _ => exact FailsAfter.ite (emit_failsAfter rfl) (emit_failsAfter rfl)
  -- a size code
  | cmpm _ _ _ | subx _ _ _ _ | addx _ _ _ _ | asrDy _ _ _ _ | aslDy _ _ _ _ | lsrDy _ _ _ _ | lslDy _ _ _ _
  | roxrDy _ _ _ _ | roxlDy _ _ _ _ | rorDy _ _ _ _ | rolDy _ _ _ _ =>
    exact withSize_failsAfter_nil fun _ => emit_failsAfter rfl
  | cmp2 _ _ _ | chk2 _ _ _ | ori _ _ | andi _ _ | subi _ _ | addi _ _ | eori _ _ | cmpi _ _ | negx _ _ | clr _ _
  | neg _ _ | not _ _ | tst _ _ | addq _ _ _ | subq _ _ _ | cmp _ _ _ | eor _ _ _ =>
    exact withSize_failsAfter fun _ => emit_failsAfter rfl
  | moves _ _ | or _ _ _ _ | sub _ _ _ _ | and _ _ _ _ | add _ _ _ _ =>
    exact withSize_failsAfter fun _ => FailsAfter.ite (emit_failsAfter rfl) (emit_failsAfter rfl)
  -- the displacement of a branch
  | bra _ | bsr _ | bcc _ _ => exact emitBranch_failsAfter _ _ _ s
  -- the FPU operations and the control-register lists
  | fmove _ _ _ _ | fint _ _ _ _ | fsinh _ _ _ _ | fintrz _ _ _ _ | fsqrt _ _ _ _ | flognp1 _ _ _ _ | fetoxm1 _ _ _ _
  | ftanh _ _ _ _ | fatan _ _ _ _ | fasin _ _ _ _ | fatanh _ _ _ _ | fsin _ _ _ _ | ftan _ _ _ _ | fetox _ _ _ _
  | ftwotox _ _ _ _ | ftentox _ _ _ _ | flogn _ _ _ _ | flog10 _ _ _ _ | flog2 _ _ _ _ | fabs _ _ _ _ | fcosh _ _ _ _
  | fneg _ _ _ _ | facos _ _ _ _ | fcos _ _ _ _ | fgetexp _ _ _ _ | fgetman _ _ _ _ | fdiv _ _ _ _ | fmod _ _ _ _
  | fadd _ _ _ _ | fmul _ _ _ _ | fsgldiv _ _ _ _ | frem _ _ _ _ | fscale _ _ _ _ | fsglmul _ _ _ _ | fsub _ _ _ _
  | fsincos _ _ _ _ _ | fcmp _ _ _ _ | ftst _ _ _ | fsmove _ _ _ _ | fssqrt _ _ _ _ | fdmove _ _ _ _ | fdsqrt _ _ _ _
  | fsabs _ _ _ _ | fsneg _ _ _ _ | fdabs _ _ _ _ | fdneg _ _ _ _ | fsdiv _ _ _ _ | fsadd _ _ _ _ | fsmul _ _ _ _
  | fddiv _ _ _ _ | fdadd _ _ _ _ | fdmul _ _ _ _ | fssub _ _ _ _ | fdsub _ _ _ _ =>
    exact emitFpGeneral_failsAfter _ _ _ _ _ s
  | fmovemToCtl _ _ | fmovemFromCtl _ _ => exact FailsAfter.ite_reads (raiseError_failsAfter rfl) (emit_failsAfter rfl)
  | _ => exact emit_failsAfter rfl

/-- Settles O60: the error of the first reads is the error after all of them, and there the meaning ends. -/
theorem metErrorsEndTheCall : Obligations.MetErrorsEndTheCall :=
  fun i s _ k e => exec_failsAfter i s k (runReads_err_of_take e)

/-- Settles O47: an error held when the builder starts is one recorded after none of its reads. -/
theorem earlierErrorWins : Obligations.EarlierErrorWins :=
  fun i s k e => ⟨_, metErrorsEndTheCall i s 0 k e, rfl, rfl⟩

/-- Settles O6, by all that `raiseError` can do. -/
theorem raiseEndsTheCall : Obligations.RaiseEndsTheCall :=
  fun k s => ⟨_, raiseError_eq k s, rfl, rfl, rfl, rfl⟩

end Sys2Proof.Machine

/-! The start of a call and the caller's walk over a stream (70_reset_and_hazards.md R311, R313, R315). -/
namespace Sys2Proof.Machine

/-! The start of a call. -/

/-- The fresh cursor holds nothing of the state but its buffer. -/
theorem freshCursor_congr {s t : State} (h : s.buf = t.buf) : freshCursor s = freshCursor t := by
  rw [freshCursor, freshCursor, h]

/-- Settles O50: a step starts from the fresh cursor, which is the same over the same buffer. -/
theorem stepDependsOnTheBufferAlone : Obligations.StepDependsOnTheBufferAlone := by
  intro s t same
  rw [step_eq_dispatch, step_eq_dispatch, freshCursor_congr same]

/-- Settles O2, by the fields of the fresh cursor. -/
theorem freshCursor_startsTheCall : Obligations.FreshCursor :=
  fun s => ⟨rfl, freshCursor_buf s, freshCursor_len s, freshCursor_pos s, freshCursor_err s⟩

/-- Settles O1, by the fields of the reset state. -/
theorem resetIsTheStartOfACall : Obligations.ResetIsTheStartOfACall :=
  ⟨State.reset_pos, State.reset_err, State.reset_buf, congrArg List.length State.reset_buf, State.reset_result⟩

/-- Settles O55: the empty buffer is canonical, the position zero is even, and no result has to fit. -/
theorem invariantAtReset : Obligations.InvariantAtReset :=
  State.inv_iff.mpr ⟨rfl, rfl, rfl⟩

/-! The walk. -/

/-- A call on bytes has a result, and it fits the cursor the call ends at. -/
theorem decodeCall_fits (bytes : List Byte) :
    ∃ t : State, t.resultFits = true ∧ t.result.isSome = true ∧ decodeCall bytes = t.result := by
  obtain ⟨t, next, inv, -, ended⟩ := stepKeepsTheInvariant (stateOf bytes) (stateOf_inv bytes)
  obtain ⟨-, -, fits⟩ := State.inv_iff.mp inv
  exact ⟨t, fits, ended, by rw [decodeCall, next]⟩

theorem decodeCall_ne_none (bytes : List Byte) : decodeCall bytes ≠ none := by
  obtain ⟨t, -, ended, call⟩ := decodeCall_fits bytes
  rw [call]
  exact Option.isSome_iff_ne_none.mp ended

/-- An instruction has its opcode word at least. -/
theorem two_le_bytesUsed {bytes : List Byte} {d : DecodedInstruction} (h : decodeCall bytes = some (.ok d)) :
    2 ≤ d.bytesUsed := by
  obtain ⟨t, fits, -, call⟩ := decodeCall_fits bytes
  have result : t.result = some (.ok d) := call.symm.trans h
  simp only [State.resultFits, result, Bool.and_eq_true, decide_eq_true_eq] at fits
  obtain ⟨⟨⟨⟨⟨-, lower⟩, -⟩, -⟩, -⟩, -⟩ := fits
  exact lower

/-- A walk with one unit of fuel for each byte left is not cut: each call moves on by its instruction's length. -/
theorem walkFrom_ne_cut (stream : List Byte) :
    ∀ n off, stream.length ≤ off + n → (walkFrom stream n off).2 ≠ .cut := by
  intro n
  induction n with
  | zero =>
    intro off enough
    have past : ¬ off < stream.length := by omega
    simp [walkFrom, past]
  | succ n ih =>
    intro off enough
    by_cases inside : off < stream.length
    case neg => simp [walkFrom, inside]
    cases call : decodeCall (stream.drop off) with
    | none => exact absurd call (decodeCall_ne_none _)
    | some result =>
      cases result with
      | err k => simp [walkFrom, inside, call]
      | ok d =>
        have moved := two_le_bytesUsed call
        simpa [walkFrom, inside, call] using ih (off + d.bytesUsed) (by omega)

/-- Settles O59: the walk has one unit of fuel for each byte of the stream. -/
theorem walkEnds : Obligations.WalkEnds :=
  fun stream start => walkFrom_ne_cut stream stream.length start (Nat.le_add_left _ _)

end Sys2Proof.Machine
